-- ==== Sys2Proof/Word.lean ====
section
/-! DEFINITION. The word widths of the core's ports and registers (00_scope R16: bit 0 is the least
significant; `+` and `-` on a width wrap). -/

namespace Sys2Proof

/-- A `u8`: frame-buffer byte, FIFO byte, register. -/
abbrev Byte := BitVec 8

/-- A `u16`: status word, device command word, checksum, result word. -/
abbrev Half := BitVec 16

/-- A `u32`: host command word, SLEEP's data word. -/
abbrev Word := BitVec 32

end Sys2Proof
end

