-- ==== Sys2Proof/Machine/Checksum.lean ====
section
/-! DEFINITION. The checksum engine (42_checksum): the one-byte update of CRC-16/A001 reflected, and its
fold over a byte sequence. -/

namespace Sys2Proof.Machine

/-- The seed of the accumulator (R14, R231). -/
def crcSeed : Half := 0xFFFF

/-- One of the eight rounds of the update (R230). -/
def crcRound (c : Half) : Half := if c.getLsbD 0 then (c >>> 1) ^^^ 0xA001 else c >>> 1

/-- `n` rounds. -/
def crcRounds : Nat → Half → Half
  | 0, c => c
  | n + 1, c => crcRounds n (crcRound c)

/-- `crc16_update(crc, byte)` (R230). -/
def crc16Update (crc : Half) (b : Byte) : Half := crcRounds 8 (crc ^^^ b.setWidth 16)

/-- `update*(c, bytes)` (R231). -/
def crcFold : Half → List Byte → Half
  | c, [] => c
  | c, b :: rest => crcFold (crc16Update c b) rest

/-- The trailer of an accumulator value: low byte first (R234, conflict C1). -/
def crcTrailer (c : Half) : List Byte := [c.extractLsb' 0 8, c.extractLsb' 8 8]

end Sys2Proof.Machine
end

