-- ==== Sys2Proof/Syntax.lean ====
section
/-! DEFINITION. The instructions of the core: one constructor of `Instr` per row of the opcode table
(host operations, reserved opcodes, status events, device words), and the port words they come from. -/

namespace Sys2Proof

/-- The RadioIdentity register (R22). -/
structure Ident where
  nodeId   : Byte
  groupId  : Byte
  band     : BitVec 2
  dataRate : Byte
  deriving DecidableEq, Repr, Inhabited

/-- The data phase that follows a host command word (R77, R90): the data bytes and the 32-bit data
words the host sent with it. No data phase is two empty lists. -/
structure DataPhase where
  bytes : List Byte := []
  words : List Word := []
  deriving DecidableEq, Repr

/-- The refusal codes of R313. -/
inductive RefusalCode where
  | rsvOpcode
  | rsvField
  | dataPhase
  | badBand
  | indexRange
  deriving DecidableEq, Repr

/-- The value of a refusal code (R313). -/
def RefusalCode.value (c : RefusalCode) : Nat :=
  match c with
  | .rsvOpcode => 1
  | .rsvField => 2
  | .dataPhase => 3
  | .badBand => 4
  | .indexRange => 5

/-- The fault codes of R311. -/
inductive FaultCode where
  | misuseTx
  | notInit
  deriving DecidableEq, Repr

/-- The value of a fault code (R311). -/
def FaultCode.value (c : FaultCode) : Nat :=
  match c with
  | .misuseTx => 1
  | .notInit => 2

/-- What a neighbour of the core does at one step boundary.
DESIGN CHOICE (log 1, log 9): the spec's agents are free to act in any order; here a list of these
in `State` says which acts next, and with which draws. -/
inductive Input where
  /-- HOST issues the command word `h` with the data phase `d` (R90). -/
  | host (h : Word) (d : DataPhase)
  /-- ISR runs one service whose `STATUS` draw is `w` and whose `FIFO_READ` draw, if it makes one, is
  `b` (R106, R180). -/
  | irq (w : Half) (b : Byte)
  /-- The bus engine alone sends the device command word `w` (R66). No agent of the spec does this:
  it lets a step run a device-word row of the opcode table by itself (log 9). -/
  | bus (w : Half)
  deriving DecidableEq, Repr

/-- The three cases of a FIFO event (R186). -/
inductive FifoCase where
  | rx
  | tx
  | ignored
  deriving DecidableEq, Repr

/-- The instructions, one constructor per row of the opcode table. -/
inductive Instr where
  -- host operations (30_encoding R91)
  | reinit (node : BitVec 5) (band : BitVec 2) (group rate : Byte)
  | pktrdy
  | cantx
  | txbegin (hdr len : Byte) (data : List Byte)
  | sleep (ms : Word)
  | woke
  | setbrk (v : Bool)
  | rdhdr
  | rdlen
  | rddata (idx : Byte)
  | rdrssi
  | rdflags
  -- reserved opcodes (R98), with the 28 bits below the opcode
  | reservedOp0 (low : BitVec 28)
  | reservedOpD (low : BitVec 28)
  | reservedOpE (low : BitVec 28)
  | reservedOpF (low : BitVec 28)
  -- status events (R102), with the status word that reports them
  | evPor (w : Half)
  | evWake (w : Half)
  | evOvf (w : Half)
  | evFifoRx (w : Half) (b : Byte)
  | evFifoTx (w : Half)
  | evFifoIgn (w : Half)
  | evNone (w : Half)
  -- device words (R66, R103)
  | setMode (rx tx wk : Bool)
  | setRssi (code : BitVec 3)
  | txWrite (b : Byte)
  | wakeTimer (m : Byte) (e : BitVec 5)
  | devReset
  | status
  deriving DecidableEq, Repr

/-- The band a band code stands for, as the assembler writes it (R100, R105). -/
def bandName (band : BitVec 2) : String :=
  if band = 1 then "433" else if band = 2 then "868" else if band = 3 then "915" else "reserved"

/-- The assembler line of a host operation (R105); `none` for what has no host syntax. -/
def Instr.asm (i : Instr) : Option String :=
  match i with
  | .reinit node band group rate =>
    some ("REINIT node=" ++ toString node.toNat ++ ", band=" ++ bandName band
      ++ ", group=" ++ toString group.toNat ++ ", rate=" ++ toString rate.toNat)
  | .pktrdy => some "PKTRDY"
  | .cantx => some "CANTX"
  | .txbegin hdr _ data =>
    some ("TXBEGIN hdr=" ++ toString hdr.toNat ++ ", data=["
      ++ String.intercalate ", " (data.map fun b => toString b.toNat) ++ "]")
  | .sleep ms => some ("SLEEP ms=" ++ toString ms.toNat)
  | .woke => some "WOKE"
  | .setbrk v => some (if v then "SETBRK 1" else "SETBRK 0")
  | .rdhdr => some "RDHDR"
  | .rdlen => some "RDLEN"
  | .rddata idx => some ("RDDATA " ++ toString idx.toNat)
  | .rdrssi => some "RDRSSI"
  | .rdflags => some "RDFLAGS"
  | .reservedOp0 _ | .reservedOpD _ | .reservedOpE _ | .reservedOpF _
  | .evPor _ | .evWake _ | .evOvf _ | .evFifoRx _ _ | .evFifoTx _ | .evFifoIgn _ | .evNone _
  | .setMode _ _ _ | .setRssi _ | .txWrite _ | .wakeTimer _ _ | .devReset | .status => none

end Sys2Proof
end

