-- ==== Sys2Proof/Config.lean ====
section
/-! DEFINITION. What an implementation fixes: the instance parameters (R7 to R10, R12, R13) with the device
command words among them (R11, R104), the OPEN configuration sequence, and the free values, which have no
body. How a device command word is built and read stands in Decode.lean. -/

namespace Sys2Proof

/-- A device command word with an operand of `n` bits, "fixed 16-bit opcodes with embedded parameters"
(R11): the opcode's own bits, and for each bit of the operand the bits of the word it sets. DESIGN CHOICE
(log 7): the parameter of R11 is any such word. -/
structure WordForm (n : Nat) where
  op   : Half
  bits : Vector Half n
  deriving DecidableEq, Repr

/-- The device command words that are parameters (R11, R325), all but the OPEN `CONFIG_SEQ`. -/
structure DeviceWords where
  /-- `PM_WORD`; operand bit 2 is `rx`, bit 1 `tx`, bit 0 `wk`. -/
  pm    : WordForm 3
  /-- `RSSI_WORD`. -/
  rssi  : WordForm 3
  /-- `TXW_WORD`. -/
  txw   : WordForm 8
  /-- `WAKE_WORD`; operand bits 12 to 8 are the exponent, bits 7 to 0 the mantissa. -/
  wake  : WordForm 13
  /-- `RESET_WORD`. -/
  reset : Half
  deriving DecidableEq, Repr

/-- The default device command words (R104), which the opcode table repeats (PRESUMED, log 7). -/
def DeviceWords.default : DeviceWords where
  pm    := { op := 0x820D, bits := #v[0x0002, 0x0030, 0x00D0] }
  rssi  := { op := 0x94A0, bits := #v[0x0001, 0x0002, 0x0004] }
  txw   := { op := 0xB800, bits := #v[0x01, 0x02, 0x04, 0x08, 0x10, 0x20, 0x40, 0x80] }
  wake  := { op := 0xE000, bits := #v[0x01, 0x02, 0x04, 0x08, 0x10, 0x20, 0x40, 0x80,
    0x0100, 0x0200, 0x0400, 0x0800, 0x1000] }
  reset := 0xFE00

/-- The instance parameters. A field of `State` holds them, so that a claim about every state is a
claim about every instance; nothing writes them (log 6). -/
structure Params where
  /-- `MAX_PAYLOAD` (R7). -/
  maxPayload  : Nat
  /-- `ADDR_FILTER` (R9). -/
  addrFilter  : Bool
  /-- `HDR_BCAST_BIT` (R10), a bit of the header byte. -/
  hdrBcastBit : Fin 8
  /-- `PREAMBLE`, `SYNC1`, `TAIL` (R12). -/
  preamble    : Byte
  sync1       : Byte
  tail        : Byte
  /-- `RSSI_BIT` (R13), one of the status bits 11 to 0 (R101). -/
  rssiBit     : Fin 12
  /-- `RSSI_CODE[0..5]` (R13), three bits each (R103). -/
  rssiCode    : Vector (BitVec 3) 6
  /-- The device command words (R11). -/
  words       : DeviceWords
  deriving DecidableEq, Repr

/-- `BUF_CAP` (R8). -/
def Params.bufCap (p : Params) : Nat := p.maxPayload + 4

/-- The range of `MAX_PAYLOAD` (R7): `1 <= MAX_PAYLOAD <= 126`. -/
abbrev Params.wf (p : Params) : Prop := 1 ≤ p.maxPayload ∧ p.maxPayload ≤ 126

/-- The spec's default parameters (R7, R9, R10, R12, R13, R104; log 6). -/
def Params.default : Params where
  maxPayload  := 66
  addrFilter  := true
  hdrBcastBit := 7
  preamble    := 0xAA
  sync1       := 0x2D
  tail        := 0xAA
  rssiBit     := 8
  rssiCode    := #v[0, 1, 2, 3, 4, 5]
  words       := DeviceWords.default

namespace Config

/-- `CONFIG_SEQ(identity)`, which the spec leaves OPEN (R11, D43; log 8). -/
opaque configSeq : Ident → List Half

/-- Free value: the `STATUS` response the DEVICE draws when no input names one (R330; log 2, 3). -/
opaque freeStatus : Nat → Half

/-- Free value: the `FIFO_READ` response the DEVICE draws when no input names one (R330; log 2, 3). -/
opaque freeFifo : Nat → Byte

/-- Free value: what a frame-buffer byte never written since reset reads as, fresh on each read
(R26, D42; log 4). -/
opaque freeBuf : Nat → Byte

/-- Free value: `IDENT` at core reset, each field a draw (R22, R341; log 5). -/
opaque resetIdent : Ident

end Config

end Sys2Proof
end

