-- ==== Sys2Proof/Machine/State.lean ====
section
/-! DEFINITION. The state of the core (10_state R20) as plain data, the reasons a step can stop, and the
state after core reset (R341). -/

namespace Sys2Proof.Machine

/-- `RadioState` (R18, R24): `tag` and `txoff` are read off by `RadioState.tag` and
`RadioState.txoff`. Tags 0xB to 0xF, which no rule writes, have no value here (93 U11; log 13). -/
inductive RadioState where
  | idle
  | receiving
  | txPreamble
  | txSync1
  | txSync2
  | txPayload (k : BitVec 8)
  | txCrcHigh
  | txCrcLow
  | txTail1
  | txTail2
  | txDone
  deriving DecidableEq, Repr

/-- `RSSI_NODE` (R31, R252): a decision node or a terminal bucket; the 4-bit code is
`RssiNode.code`. The codes 6, 7 and 15, which no rule writes, have no value here (93 U11; log 13). -/
inductive RssiNode where
  | node (n : Fin 6)
  | bucket (j : Fin 7)
  deriving DecidableEq, Repr

/-- One entry of `BUSLOG`: a bus operation of R66 with its operands and, where one is used, the
response the DEVICE drew (R39). -/
inductive BusEntry where
  | status (resp : Half)
  | fifoRead (resp : Byte)
  | setMode (rx tx wk : Bool)
  | setRssi (code : BitVec 3)
  | txWrite (b : Byte)
  | wakeTimer (m : Byte) (e : BitVec 5)
  | devReset
  | config (id : Ident)
  deriving DecidableEq, Repr

/-- The frame buffer: the bytes written since reset, by index, indices strictly rising. An index not
listed has no value of its own (R26). -/
abbrev Memory := List Host.Cell

/-- Why a step stops with a fault. -/
inductive Fault where
  /-- Raised by `step` in a state whose `FAULT` mark is set: no agent has a further step (R40, R310).
  Safe: the spec says the same. -/
  | faultMark (c : FaultCode)
  /-- Raised by a service whose frame-buffer index lies outside the buffer, which no state that meets
  the invariant of R41 reaches (R63). Safe: the machine stops where the spec gives no access (log 14). -/
  | bufIndex (i : Nat)
  deriving DecidableEq, Repr

/-- Why a step refuses. -/
inductive Refusal where
  /-- An instruction with no meaning yet, by its mnemonic: raised by an arm of `exec`. Safe. -/
  | notModelled (mnemonic : String)
  /-- Raised by `step` in a state whose `REFUSED` mark is set: no agent has a further step (R40, R310).
  Safe: the spec says the same. -/
  | refusedMark (c : RefusalCode)
  /-- Raised by `step` for a raw device word that is no row of the table; only the model's own input
  `Input.bus` can bring one. Safe: no agent of the spec sends it (log 9). -/
  | unknownDeviceWord (w : Half)
  deriving DecidableEq, Repr

/-- The state `S` of the core (R20), and after it the model's own fields. -/
structure State where
  /-- `INIT` (R21). -/
  init         : Bool
  /-- `IDENT` (R22). -/
  ident        : Ident
  /-- `STATE` (R24). -/
  radio        : RadioState
  /-- `BUF` (R26). -/
  buf          : Memory
  /-- `CURSOR` (R27). -/
  cursor       : Byte
  /-- `CRC` (R28). -/
  crc          : Half
  /-- `CRC_SNAP` (R29). -/
  crcSnap      : Half
  /-- `FRAME_READY` (R30). -/
  frameReady   : Bool
  /-- `RSSI_NODE` (R31). -/
  rssiNode     : RssiNode
  /-- `AVAIL` (R32). -/
  avail        : Bool
  /-- `ACCEPT_BROKEN` (R33). -/
  acceptBroken : Bool
  /-- `RXON` (R34). -/
  rxOn         : Bool
  /-- `TXON` (R35). -/
  txOn         : Bool
  /-- `WAKE_EN` (R36). -/
  wakeEn       : Bool
  /-- `WAKE_M` (R37). -/
  wakeM        : Byte
  /-- `WAKE_E` (R37). -/
  wakeE        : BitVec 5
  /-- `WOKE` (R38). -/
  woke         : Bool
  /-- `BUSLOG` (R39), oldest entry first. -/
  busLog       : List BusEntry
  /-- `FAULT` (R40). -/
  faultMark    : Option FaultCode
  /-- `REFUSED` (R40). -/
  refusedMark  : Option RefusalCode
  /-- Model's own: the instance parameters, written by nothing (log 6). -/
  cfg          : Params
  /-- Model's own: what the neighbours do next, in order (log 1). -/
  inputs       : List Input
  /-- Model's own: the result words returned on the host port, oldest first (R99; log 18). -/
  results      : List Half
  /-- Model's own: how many free values have been drawn (log 3). -/
  draws        : Nat
  deriving DecidableEq, Repr

/-- The state after core reset of an instance with the parameters `p` (R341). `ident` is a free value
(log 5); `inputs` and `results` are empty and `draws` is 0 (DESIGN CHOICE, log 1, 3, 18). -/
def State.resetOf (p : Params) : State where
  init         := false
  ident        := Config.resetIdent
  radio        := .idle
  buf          := []
  cursor       := 0
  crc          := 0xFFFF
  crcSnap      := 0xFFFF
  frameReady   := false
  rssiNode     := .node 3
  avail        := false
  acceptBroken := false
  rxOn         := false
  txOn         := false
  wakeEn       := false
  wakeM        := 0
  wakeE        := 0
  woke         := false
  busLog       := []
  faultMark    := none
  refusedMark  := none
  cfg          := p
  inputs       := []
  results      := []
  draws        := 0

/-- The state after core reset of the default instance (R341; log 6). -/
def State.reset : State := State.resetOf Params.default

end Sys2Proof.Machine
end

