-- ==== Sys2Proof/Machine/Ops.lean ====
section
/-! DEFINITION. The named operations over the frame buffer, the device port, the host port and the sticky
marks, which every meaning is written from. -/

namespace Sys2Proof.Machine

/-- What a meaning answers. -/
abbrev Result := Host.Outcome State Fault Refusal

/-! ## The frame buffer -/

/-- The byte written last at index `a`, if one was written since reset (R26). -/
def Memory.read : Memory → Nat → Option Byte
  | [], _ => none
  | (x, b) :: rest, a => if x = a then some b else Memory.read rest a

/-- Write one byte, keeping the indices strictly rising. -/
def Memory.write : Memory → Nat → Byte → Memory
  | [], a, b => [(a, b)]
  | (x, c) :: rest, a, b =>
    if a < x then (a, b) :: (x, c) :: rest
    else if a = x then (a, b) :: rest
    else (x, c) :: Memory.write rest a b

/-- The canonical form: indices strictly rising. No default value exists, so none is listed in vain. -/
abbrev Memory.wf (m : Memory) : Prop := m.Pairwise fun x y => x.1 < y.1

/-- Write consecutive bytes from index `a`. -/
def Memory.writeAll : Memory → Nat → List Byte → Memory
  | m, _, [] => m
  | m, a, b :: rest => Memory.writeAll (m.write a b) (a + 1) rest

/-- `BUF[i]` as a value: the byte written last, or a fresh free value (R26, D42; log 4). -/
def State.bufByte (s : State) (i : Nat) : Byte := (s.buf.read i).getD (Config.freeBuf s.draws)

/-- Read `BUF[i]`: the byte, and the state in which a free value, if one was drawn, is used up. -/
def State.readBuf (s : State) (i : Nat) : Byte × State :=
  (s.bufByte i, { s with draws := if (s.buf.read i).isSome then s.draws else s.draws + 1 })

/-- `BUF[i] <- b` (R17). -/
def State.writeBuf (s : State) (i : Nat) (b : Byte) : State := { s with buf := s.buf.write i b }

/-! ## The device port -/

/-- What a bus operation leaves in `RXON`, `TXON` or `WAKE_EN`: `SET_MODE` writes its operand, every other
operation keeps the old value (R34 to R36, R66). -/
def BusEntry.rxAfter (e : BusEntry) (old : Bool) : Bool :=
  match e with
  | .setMode rx _ _ => rx
  | .status _ | .fifoRead _ | .setRssi _ | .txWrite _ | .wakeTimer _ _ | .devReset | .config _ => old

def BusEntry.txAfter (e : BusEntry) (old : Bool) : Bool :=
  match e with
  | .setMode _ tx _ => tx
  | .status _ | .fifoRead _ | .setRssi _ | .txWrite _ | .wakeTimer _ _ | .devReset | .config _ => old

def BusEntry.wakeAfter (e : BusEntry) (old : Bool) : Bool :=
  match e with
  | .setMode _ _ wk => wk
  | .status _ | .fifoRead _ | .setRssi _ | .txWrite _ | .wakeTimer _ _ | .devReset | .config _ => old

/-- `bus(op)` (R66): append one entry to `BUSLOG`; `SET_MODE` also writes the mirrors. -/
def State.bus (s : State) (e : BusEntry) : State :=
  { s with
    busLog := s.busLog ++ [e]
    rxOn := e.rxAfter s.rxOn
    txOn := e.txAfter s.txOn
    wakeEn := e.wakeAfter s.wakeEn }

/-! ## The host port -/

/-- `return r` (R17, R99): the operation completes and its result word goes to the host. -/
def State.answer (s : State) (r : Half) : Result := .next { s with results := s.results ++ [r] }

/-- The result word of a Boolean (R99). -/
def boolWord (v : Bool) : Half := if v then 0x0001 else 0x0000

/-! ## The sticky marks: what stands in this core for taking an exception -/

/-- `raise Fault(code)` (R312): the state at the start of the step, with the mark. -/
def State.raiseFault (s : State) (c : FaultCode) : Result := .next { s with faultMark := some c }

/-- `refuse(code)` (R313): the state at the start of the step, with the mark. -/
def State.refuse (s : State) (c : RefusalCode) : Result := .next { s with refusedMark := some c }

/-! ## The receive arm -/

/-- `arm_receive()` (R132). -/
def State.armReceive (s : State) : State :=
  let s1 := { s with
    cursor := 0
    crc := crc16Update crcSeed s.ident.groupId
    rssiNode := .node 3 }
  let s2 := s1.bus (.setRssi s.cfg.rssiCode[3])
  let s3 := s2.bus (.setMode true false s2.wakeEn)
  { s3 with radio := .receiving }

end Sys2Proof.Machine
end

