-- ==== Sys2Proof/Machine/Operands.lean ====
section
/-! DEFINITION. The operand forms: the fields of the header byte (R10), of the status word (R101), of
`STATE` (R24) and `RSSI_NODE` (R31), and the frame-buffer index of a transmit position (R193). -/

namespace Sys2Proof.Machine

/-- `HDR_DST` (R10): `zext_8(header[4:0])`. -/
def hdrDst (h : Byte) : Byte := (h.extractLsb' 0 5).setWidth 8

/-- `HDR_BCAST` (R10). -/
def hdrBcast (p : Params) (h : Byte) : Bool := h.getLsbD p.hdrBcastBit.val

/-- `S.RSSI` (R101): the comparator bit of a status word. -/
def rssiAbove (p : Params) (w : Half) : Bool := w.getLsbD p.rssiBit.val

/-- `STATE.tag` (R24). -/
def RadioState.tag (r : RadioState) : BitVec 4 :=
  match r with
  | .idle => 0x0
  | .receiving => 0x1
  | .txPreamble => 0x2
  | .txSync1 => 0x3
  | .txSync2 => 0x4
  | .txPayload _ => 0x5
  | .txCrcHigh => 0x6
  | .txCrcLow => 0x7
  | .txTail1 => 0x8
  | .txTail2 => 0x9
  | .txDone => 0xA

/-- `STATE.txoff` (R24): 0 outside `TxPayload`. -/
def RadioState.txoff (r : RadioState) : BitVec 8 :=
  match r with
  | .txPayload k => k
  | .idle | .receiving | .txPreamble | .txSync1 | .txSync2
  | .txCrcHigh | .txCrcLow | .txTail1 | .txTail2 | .txDone => 0

/-- "A transmit state" (R18): any value from `TxPreamble` to `TxDone`. -/
def RadioState.isTx (r : RadioState) : Bool :=
  match r with
  | .idle | .receiving => false
  | .txPreamble | .txSync1 | .txSync2 | .txPayload _
  | .txCrcHigh | .txCrcLow | .txTail1 | .txTail2 | .txDone => true

/-- `RSSI_NODE` as its 4-bit register (R31, R252). -/
def RssiNode.code (r : RssiNode) : BitVec 4 :=
  match r with
  | .node n => BitVec.ofNat 4 n.val
  | .bucket j => BitVec.ofNat 4 (8 + j.val)

/-- The first transmit position of a frame whose length byte is `len`: `-(2 + len)` (R192). -/
def txStart (len : Byte) : BitVec 8 := -(2 + len)

/-- The frame-buffer index of the transmit position `k` (R193): `(2 + len) + k`, on 8 bits (R16). -/
def txIndex (len : Byte) (k : BitVec 8) : Nat := ((2 + len) + k).toNat

/-- The case of a FIFO event in this state (R186). -/
def State.fifoCase (s : State) : FifoCase :=
  if s.radio = .receiving ∧ s.frameReady = false then .rx
  else if s.radio.isTx then .tx
  else .ignored

end Sys2Proof.Machine
end

