-- ==== Sys2Proof/Machine/Flags.lean ====
section
/-! DEFINITION. The computed flags: frame completion (R188), frame acceptance (R133) and the flags word
of RDFLAGS (R142). -/

namespace Sys2Proof.Machine

/-- `complete(c)` for a length byte `len` (R188), on integers. -/
def completeWith (p : Params) (len : Byte) (c : Byte) : Bool :=
  (decide (2 ≤ c.toNat) && decide (c.toNat > len.toNat + 3)) || decide (c.toNat = p.bufCap)

/-- `complete(CURSOR)` (R188), and the state after its read of `BUF[1]`, which is made only from
`CURSOR = 2` on, as the first disjunct is false before (DEDUCED, log 20). -/
def State.frameComplete (s : State) : Bool × State :=
  if 2 ≤ s.cursor.toNat then
    let r := s.readBuf 1
    (completeWith s.cfg r.1 s.cursor, r.2)
  else (completeWith s.cfg 0 s.cursor, s)

/-- `accept()` on its two bytes (R133). -/
def acceptWith (s : State) (h len : Byte) : Bool :=
  let lenOk := decide (len.toNat ≤ s.cfg.maxPayload)
  let crcOk := s.crcSnap == 0x0000
  let addrOk := !s.cfg.addrFilter || hdrBcast s.cfg h || (hdrDst h == s.ident.nodeId)
  lenOk && addrOk && (crcOk || s.acceptBroken)

/-- `accept()` (R133), and the state after its reads of `BUF[0]` and `BUF[1]`. -/
def State.accept (s : State) : Bool × State :=
  let h := s.readBuf 0
  let l := h.2.readBuf 1
  (acceptWith s h.1 l.1, l.2)

/-- The flags word of RDFLAGS (R142). -/
def State.flagsWord (s : State) : Half :=
  (0 : BitVec 4) ++ s.radio.tag ++ BitVec.ofBool (s.crcSnap == 0x0000) ++ BitVec.ofBool s.wakeEn
    ++ BitVec.ofBool s.txOn ++ BitVec.ofBool s.rxOn ++ BitVec.ofBool s.acceptBroken
    ++ BitVec.ofBool s.frameReady ++ BitVec.ofBool s.init ++ BitVec.ofBool s.avail

end Sys2Proof.Machine
end

