-- ==== Sys2Proof/Machine/Rssi.lean ====
section
/-! DEFINITION. The RSSI calibration search (43_rssi): the decision table, one step, and the dBm table. -/

namespace Sys2Proof.Machine

/-- `DOWN[n]` (R250): the successor when the signal is not above the threshold. -/
def rssiDown (n : Fin 6) : RssiNode :=
  match n with
  | 0 => .bucket 0
  | 1 => .node 0
  | 2 => .bucket 2
  | 3 => .node 1
  | 4 => .bucket 4
  | 5 => .node 4

/-- `UP[n]` (R250): the successor when the signal is above the threshold. -/
def rssiUp (n : Fin 6) : RssiNode :=
  match n with
  | 0 => .bucket 1
  | 1 => .node 2
  | 2 => .bucket 3
  | 3 => .node 5
  | 4 => .bucket 5
  | 5 => .bucket 6

/-- The successor of a node (R253). -/
def rssiNext (n : Fin 6) (above : Bool) : RssiNode := if above then rssiUp n else rssiDown n

/-- `rssi_step(above)` (R253). After termination the receive service skips it (R187), so a terminal
`RSSI_NODE` stays. -/
def State.rssiStep (s : State) (above : Bool) : State :=
  match s.rssiNode with
  | .bucket _ => s
  | .node n =>
    match rssiNext n above with
    | .node m => { s with rssiNode := .node m }.bus (.setRssi s.cfg.rssiCode[m])
    | .bucket j => { s with rssiNode := .bucket j }

/-- `DBM[j]` as an i8 (R255). -/
def dbm (j : Fin 7) : BitVec 8 :=
  match j with
  | 0 => -106
  | 1 => -100
  | 2 => -94
  | 3 => -88
  | 4 => -82
  | 5 => -76
  | 6 => -70

/-- The result word of RDRSSI (R141): `sext_16` of the bucket's dBm, or 0 before termination. -/
def RssiNode.reading (r : RssiNode) : Half :=
  match r with
  | .node _ => 0x0000
  | .bucket j => (dbm j).signExtend 16

end Sys2Proof.Machine
end

