-- ==== Sys2Proof/Machine/Accessors.lean ====
section
/-! DEFINITION. The accessors (40_host_ops section 6): RDHDR, RDLEN, RDDATA, RDRSSI, RDFLAGS. They write no
state of the spec; reading a byte never written uses up one free value (log 4). -/

namespace Sys2Proof.Machine

/-- `return zext_16(BUF[i])`. -/
def State.answerByte (s : State) (i : Nat) : Result :=
  (s.readBuf i).2.answer ((s.readBuf i).1.setWidth 16)

/-- RDHDR (R138). -/
def execRdhdr (s : State) : Result := s.answerByte 0

/-- RDLEN (R139). -/
def execRdlen (s : State) : Result := s.answerByte 1

/-- RDDATA (R140). -/
def execRddata (idx : Byte) (s : State) : Result :=
  if 2 + idx.toNat ≥ s.cfg.bufCap then s.refuse .indexRange else s.answerByte (2 + idx.toNat)

/-- RDRSSI (R141). -/
def execRdrssi (s : State) : Result := s.answer s.rssiNode.reading

/-- RDFLAGS (R142). -/
def execRdflags (s : State) : Result := s.answer s.flagsWord

end Sys2Proof.Machine
end

