-- ==== Sys2Proof/WellFormed.lean ====
section
/-! DEFINITION. Which terms of `Instr` an encoding of the spec stands for. -/

namespace Sys2Proof

/-- Does the status word match a row of R102? -/
def matchesRow (w mask pat : Half) : Bool := w &&& mask == pat

/-- Well-formedness: a TXBEGIN carries exactly `len` data bytes (R94); an event's status word matches
its row of R102; a wake-timer word is not the reset word, which is the
default pattern's word of mantissa 0 and exponent 30 (R104). Every other term has an encoding. -/
def Instr.wf (i : Instr) : Bool :=
  match i with
  | .txbegin _ len data => data.length == len.toNat
  | .evPor w => matchesRow w 0x4000 0x4000
  | .evWake w => matchesRow w 0x5000 0x1000
  | .evOvf w => matchesRow w 0x6000 0x2000
  | .evFifoRx w _ => matchesRow w 0xE000 0x8000
  | .evFifoTx w => matchesRow w 0xE000 0x8000
  | .evFifoIgn w => matchesRow w 0xE000 0x8000
  | .evNone w => matchesRow w 0xF000 0x0000
  | .wakeTimer m e => !(m == 0 && e == 30)
  | .reinit _ _ _ _ | .pktrdy | .cantx | .sleep _ | .woke | .setbrk _
  | .rdhdr | .rdlen | .rddata _ | .rdrssi | .rdflags
  | .reservedOp0 _ | .reservedOpD _ | .reservedOpE _ | .reservedOpF _
  | .setMode _ _ _ | .setRssi _ | .txWrite _ | .devReset | .status => true

end Sys2Proof
end

