-- ==== Sys2Proof/Decode.lean ====
section
/-! DEFINITION. The device command words (R104), the decoders of the three ports (host command words R90 to
R98, status words R102, device command words R103), the encoder, and the opcode table's reading of one word. -/

namespace Sys2Proof

/-! ## The device command words (R11, R104), for any parameters -/

/-- The bits a list of operand-bit images sets in a word, `v i` being bit `i` of the operand. -/
def orFields (v : Nat → Bool) : List Half → Nat → Half
  | [], _ => 0
  | m :: rest, i => (if v i then m else 0) ||| orFields v rest (i + 1)

/-- The operand, as a number, whose bits are those whose images are set in the word. -/
def fieldsNat (w : Half) : List Half → Nat
  | [] => 0
  | m :: rest => (if w &&& m = m then 1 else 0) + 2 * fieldsNat w rest

/-- The word of an operand. -/
def WordForm.word {n : Nat} (f : WordForm n) (v : BitVec n) : Half :=
  f.op ||| orFields v.getLsbD f.bits.toList 0

/-- The operand of a word: the greatest one it can hold, if its word is this one. -/
def WordForm.read {n : Nat} (f : WordForm n) (w : Half) : Option (BitVec n) :=
  if f.word (BitVec.ofNat n (fieldsNat w f.bits.toList)) = w then
    some (BitVec.ofNat n (fieldsNat w f.bits.toList))
  else none

/-- `PM_WORD(rx, tx, wk)`. -/
def pmWord (dw : DeviceWords) (rx tx wk : Bool) : Half :=
  dw.pm.word (BitVec.ofBool rx ++ BitVec.ofBool tx ++ BitVec.ofBool wk)

/-- `RSSI_WORD(code)`. -/
def rssiWord (dw : DeviceWords) (code : BitVec 3) : Half := dw.rssi.word code

/-- `TXW_WORD(b)`. -/
def txwWord (dw : DeviceWords) (b : Byte) : Half := dw.txw.word b

/-- `WAKE_WORD(m, e)`. -/
def wakeWord (dw : DeviceWords) (m : Byte) (e : BitVec 5) : Half := dw.wake.word (e ++ m)

/-- `RESET_WORD`. -/
def resetWord (dw : DeviceWords) : Half := dw.reset

/-- The word of a status read: the source's own constant, no parameter (R11, R66). -/
def statusWord : Half := 0x0000

/-! ## Host command words -/

/-- The opcode field `H[31:28]` (R90). -/
def opField (h : Word) : BitVec 4 := h.extractLsb' 28 4

/-- Format F0 (R92): 28 zero bits, no data phase. -/
def decodeF0 (i : Instr) (h : Word) (d : DataPhase) : Except RefusalCode Instr :=
  if h.extractLsb' 0 28 ≠ 0 then .error .rsvField
  else if d ≠ {} then .error .dataPhase
  else .ok i

/-- Format FR (R93): REINIT. -/
def decodeReinit (h : Word) (d : DataPhase) : Except RefusalCode Instr :=
  if h.extractLsb' 26 2 ≠ 0 ∨ h.extractLsb' 5 3 ≠ 0 then .error .rsvField
  else if d ≠ {} then .error .dataPhase
  else .ok (.reinit (h.extractLsb' 0 5) (h.extractLsb' 24 2) (h.extractLsb' 8 8) (h.extractLsb' 16 8))

/-- Format FT (R94): TXBEGIN and its `len` data bytes. -/
def decodeTxbegin (h : Word) (d : DataPhase) : Except RefusalCode Instr :=
  if h.extractLsb' 16 12 ≠ 0 then .error .rsvField
  else if d.bytes.length ≠ (h.extractLsb' 0 8).toNat ∨ d.words ≠ [] then .error .dataPhase
  else .ok (.txbegin (h.extractLsb' 8 8) (h.extractLsb' 0 8) d.bytes)

/-- Format FS (R95): SLEEP and its one data word. -/
def decodeSleep (h : Word) (d : DataPhase) : Except RefusalCode Instr :=
  if h.extractLsb' 0 28 ≠ 0 then .error .rsvField
  else
    match d with
    | { bytes := [], words := [ms] } => .ok (.sleep ms)
    | _ => .error .dataPhase

/-- Format FB (R96): SETBRK. -/
def decodeSetbrk (h : Word) (d : DataPhase) : Except RefusalCode Instr :=
  if h.extractLsb' 1 27 ≠ 0 then .error .rsvField
  else if d ≠ {} then .error .dataPhase
  else .ok (.setbrk (h.getLsbD 0))

/-- Format FI (R97): RDDATA. The index range is the operation's own check (R140, R318). -/
def decodeRddata (h : Word) (d : DataPhase) : Except RefusalCode Instr :=
  if h.extractLsb' 8 20 ≠ 0 then .error .rsvField
  else if d ≠ {} then .error .dataPhase
  else .ok (.rddata (h.extractLsb' 0 8))

/-- The opcode map (R91), with the order of checks of R318: opcode, reserved fields, data phase. A
reserved opcode decodes to its own constructor, whose meaning is `refuse(RSV_OPCODE)` (R98). DEDUCED
(log 17): a data phase sent with an operation that has none is refused as `DATA_PHASE`. -/
def decodeHost (h : Word) (d : DataPhase) : Except RefusalCode Instr :=
  match (opField h).toNat with
  | 0x0 => .ok (.reservedOp0 (h.extractLsb' 0 28))
  | 0x1 => decodeReinit h d
  | 0x2 => decodeF0 .pktrdy h d
  | 0x3 => decodeF0 .cantx h d
  | 0x4 => decodeTxbegin h d
  | 0x5 => decodeSleep h d
  | 0x6 => decodeF0 .woke h d
  | 0x7 => decodeSetbrk h d
  | 0x8 => decodeF0 .rdhdr h d
  | 0x9 => decodeF0 .rdlen h d
  | 0xA => decodeRddata h d
  | 0xB => decodeF0 .rdrssi h d
  | 0xC => decodeF0 .rdflags h d
  | 0xD => .ok (.reservedOpD (h.extractLsb' 0 28))
  | 0xE => .ok (.reservedOpE (h.extractLsb' 0 28))
  | _ => .ok (.reservedOpF (h.extractLsb' 0 28))

/-! ## Status words -/

/-- The FIFO event of a status word, by the case of R186. -/
def fifoEvent (w : Half) (b : Byte) (c : FifoCase) : Instr :=
  match c with
  | .rx => .evFifoRx w b
  | .tx => .evFifoTx w
  | .ignored => .evFifoIgn w

/-- The events one service handles, in order (R102, R182): POR alone; else OVF, or else FIFO; then
WAKE; EV_NONE where no event bit is set. -/
def statusEvents (w : Half) (b : Byte) (c : FifoCase) : List Instr :=
  if w.getLsbD 14 then [.evPor w]
  else if w.getLsbD 13 then .evOvf w :: (if w.getLsbD 12 then [.evWake w] else [])
  else if w.getLsbD 15 then fifoEvent w b c :: (if w.getLsbD 12 then [.evWake w] else [])
  else if w.getLsbD 12 then [.evWake w]
  else [.evNone w]

/-! ## Device command words -/

/-- The device command word read as a row of the table (R103, R104) by the instance's words; `none` for a
word of no row. The status word and the reset word are tested first, as the default wake-timer word covers the
reset word. -/
def decodeDevice (dw : DeviceWords) (w : Half) : Option Instr :=
  if w = statusWord then some .status
  else if w = resetWord dw then some .devReset
  else
    match dw.wake.read w with
    | some v => some (.wakeTimer (v.extractLsb' 0 8) (v.extractLsb' 8 5))
    | none =>
      match dw.txw.read w with
      | some b => some (.txWrite b)
      | none =>
        match dw.rssi.read w with
        | some code => some (.setRssi code)
        | none =>
          match dw.pm.read w with
          | some v => some (.setMode (v.getLsbD 2) (v.getLsbD 1) (v.getLsbD 0))
          | none => none

/-! ## The encoder -/

/-- Format F0's word (R92). -/
def wordF0 (op : BitVec 4) : Word := op ++ (0 : BitVec 28)

/-- What a neighbour puts on the port for an instruction: host operations by R92 to R97, a status
event by its status word (a service of it, with the FIFO byte 0 where none is read), a device word by
R103 and the instance's words. -/
def encodeWith (dw : DeviceWords) (i : Instr) : Input :=
  match i with
  | .reinit node band group rate =>
    .host ((0x1 : BitVec 4) ++ (0 : BitVec 2) ++ band ++ rate ++ group ++ (0 : BitVec 3) ++ node) {}
  | .pktrdy => .host (wordF0 0x2) {}
  | .cantx => .host (wordF0 0x3) {}
  | .txbegin hdr len data =>
    .host ((0x4 : BitVec 4) ++ (0 : BitVec 12) ++ hdr ++ len) { bytes := data }
  | .sleep ms => .host (wordF0 0x5) { words := [ms] }
  | .woke => .host (wordF0 0x6) {}
  | .setbrk v => .host ((0x7 : BitVec 4) ++ (0 : BitVec 27) ++ BitVec.ofBool v) {}
  | .rdhdr => .host (wordF0 0x8) {}
  | .rdlen => .host (wordF0 0x9) {}
  | .rddata idx => .host ((0xA : BitVec 4) ++ (0 : BitVec 20) ++ idx) {}
  | .rdrssi => .host (wordF0 0xB) {}
  | .rdflags => .host (wordF0 0xC) {}
  | .reservedOp0 low => .host ((0x0 : BitVec 4) ++ low) {}
  | .reservedOpD low => .host ((0xD : BitVec 4) ++ low) {}
  | .reservedOpE low => .host ((0xE : BitVec 4) ++ low) {}
  | .reservedOpF low => .host ((0xF : BitVec 4) ++ low) {}
  | .evPor w => .irq w 0
  | .evWake w => .irq w 0
  | .evOvf w => .irq w 0
  | .evFifoRx w b => .irq w b
  | .evFifoTx w => .irq w 0
  | .evFifoIgn w => .irq w 0
  | .evNone w => .irq w 0
  | .setMode rx tx wk => .bus (pmWord dw rx tx wk)
  | .setRssi code => .bus (rssiWord dw code)
  | .txWrite b => .bus (txwWord dw b)
  | .wakeTimer m e => .bus (wakeWord dw m e)
  | .devReset => .bus (resetWord dw)
  | .status => .bus statusWord

/-- The encoding at the opcode table's device words (R104). -/
def encode (i : Instr) : Input := encodeWith DeviceWords.default i

/-! ## The opcode table's words -/

/-- The data phase of zeros that the word's own length calls for (R108). -/
def zeroData (h : Word) : DataPhase :=
  if opField h = 0x4 then { bytes := List.replicate (h.extractLsb' 0 8).toNat 0 }
  else if opField h = 0x5 then { words := [0] }
  else {}

/-- The instruction a table word stands for. A 32-bit word is a host command with the data phase
`zeroData`. A 16-bit word is a device command word where a device row matches it, and else a status
word, read as in `Idle`, whose first event it is (DESIGN CHOICE, log 10). -/
def decodeTableWord (nbits w : Nat) : Option Instr :=
  if nbits = 32 then (decodeHost (BitVec.ofNat 32 w) (zeroData (BitVec.ofNat 32 w))).toOption
  else if nbits = 16 then
    match decodeDevice DeviceWords.default (BitVec.ofNat 16 w) with
    | some i => some i
    | none => (statusEvents (BitVec.ofNat 16 w) 0 .ignored).head?
  else none

end Sys2Proof
end

