-- ==== Sys2Proof/Machine/Device.lean ====
section
/-! DEFINITION. The device port: the bus operation each device word of the table is (R66), and the words
and wire bits of every bus operation, out and in. -/

namespace Sys2Proof.Machine

/-- `SET_MODE(rx, tx, wk)` (R66). -/
def execSetMode (rx tx wk : Bool) (s : State) : Result := .next (s.bus (.setMode rx tx wk))

/-- `SET_RSSI(code)` (R66). -/
def execSetRssi (code : BitVec 3) (s : State) : Result := .next (s.bus (.setRssi code))

/-- `TX_WRITE(b)` (R66). -/
def execTxWrite (b : Byte) (s : State) : Result := .next (s.bus (.txWrite b))

/-- `WAKE_TIMER(m, e)` (R66). -/
def execWakeTimer (m : Byte) (e : BitVec 5) (s : State) : Result := .next (s.bus (.wakeTimer m e))

/-- `DEV_RESET` (R66). -/
def execDevReset (s : State) : Result := .next (s.bus .devReset)

/-- `STATUS` (R66) by itself: the response is a draw of the DEVICE, a free value (log 3). A service's own
`STATUS` takes the draw of its input (Service.lean). -/
def execStatus (s : State) : Result :=
  .next { s.bus (.status (Config.freeStatus s.draws)) with draws := s.draws + 1 }

/-- The 16-bit words a bus operation sends, by the instance's words (R11, R66, R104). `FIFO_READ` sends no
word: it is 8 more clocks of its `STATUS` transaction (R67). -/
def BusEntry.words (dw : DeviceWords) (e : BusEntry) : List Half :=
  match e with
  | .status _ => [statusWord]
  | .fifoRead _ => []
  | .setMode rx tx wk => [pmWord dw rx tx wk]
  | .setRssi code => [rssiWord dw code]
  | .txWrite b => [txwWord dw b]
  | .wakeTimer m e => [wakeWord dw m e]
  | .devReset => [resetWord dw]
  | .config id => Config.configSeq id

/-- A word or a byte as clocked on the wire: most significant bit first (R68; PRESUMED, log 21). -/
def wireBits {n : Nat} (v : BitVec n) : List Bool := (List.range n).map fun i => v.getMsbD i

/-- The bits of the words a bus operation clocks out (R65, R68). -/
def BusEntry.wire (dw : DeviceWords) (e : BusEntry) : List Bool := (e.words dw).flatMap wireBits

/-- The bits of the response a bus operation clocks in, where the core uses it (R66, R68): the 16-bit status
word, and the 8-bit FIFO byte that follows it in the same transaction (R67). -/
def BusEntry.wireIn (e : BusEntry) : List Bool :=
  match e with
  | .status resp => wireBits resp
  | .fifoRead resp => wireBits resp
  | .setMode _ _ _ | .setRssi _ | .txWrite _ | .wakeTimer _ _ | .devReset | .config _ => []

/-- The bytes a list of bus operations puts on the device's transmit register (R69, R200). -/
def airBytes : List BusEntry → List Byte
  | [] => []
  | .txWrite b :: rest => b :: airBytes rest
  | .status _ :: rest | .fifoRead _ :: rest | .setMode _ _ _ :: rest | .setRssi _ :: rest
  | .wakeTimer _ _ :: rest | .devReset :: rest | .config _ :: rest => airBytes rest

end Sys2Proof.Machine
end

