-- ==== Sys2Proof/Machine/Events.lean ====
section
/-! DEFINITION. The handlers of the status events (41_isr_events) but for the transmit chain: POR, WAKE,
OVF, FIFO receive, ignored FIFO, none. The `STATUS` read and `FIFO_READ` of a service, and the choice of
events, stand in Service.lean. -/

namespace Sys2Proof.Machine

/-- `por_service()` (R183). -/
def execEvPor (s : State) : Result :=
  let s1 := (s.bus (.config s.ident)).bus (.setMode false false false)
  .next { s1 with avail := true, radio := .idle, frameReady := false, cursor := 0 }

/-- `wake_service()` (R184). -/
def execEvWake (s : State) : Result :=
  .next ({ s with woke := true }.bus (.setMode s.rxOn s.txOn false))

/-- `ovf_service()` (R185). -/
def execEvOvf (s : State) : Result :=
  if s.radio = .receiving ∧ s.frameReady = false then
    .next (s.bus (.setMode false false s.wakeEn)).armReceive
  else if s.radio.isTx then
    .next { s.bus (.setMode false false s.wakeEn) with radio := .idle }
  else .next s

/-- The end of a receive service whose frame is complete (R187): receiver off, snapshot, latch. -/
def State.finishFrame (s : State) : State :=
  { s.bus (.setMode false false s.wakeEn) with crcSnap := s.crc, frameReady := true }

/-- Store one received byte and feed it (R187). -/
def State.storeByte (s : State) (b : Byte) : State :=
  { s.writeBuf s.cursor.toNat b with crc := crc16Update s.crc b, cursor := s.cursor + 1 }

/-- `fifo_rx(s, b)` (R187), for the status word `w`. A cursor outside the buffer, which the invariants
I-h and I-i exclude (R63), faults (log 14). -/
def execEvFifoRx (w : Half) (b : Byte) (s : State) : Result :=
  if s.cursor.toNat < s.cfg.bufCap then
    let c := ((s.rssiStep (rssiAbove s.cfg w)).storeByte b).frameComplete
    .next (if c.1 then c.2.finishFrame else c.2)
  else .fault (.bufIndex s.cursor.toNat)

/-- `EV_FIFO_IGN` (R199): no state change. -/
def execEvFifoIgn (s : State) : Result := .next s

/-- `EV_NONE` (R181): the service ends after the status read. -/
def execEvNone (s : State) : Result := .next s

end Sys2Proof.Machine
end

