-- ==== Sys2Proof/Machine/HostOps.lean ====
section
/-! DEFINITION. The mainline side of the packet engine (40_host_ops): REINIT, PKTRDY, CANTX, TXBEGIN,
SETBRK, and the pseudo-operation SEND. -/

namespace Sys2Proof.Machine

/-- REINIT (R131). -/
def execReinit (node : BitVec 5) (band : BitVec 2) (group rate : Byte) (s : State) : Result :=
  if band = 0 then s.refuse .badBand
  else
    let s1 := { s with
      ident := { nodeId := node.setWidth 8, groupId := group, band := band, dataRate := rate }
      init := true
      avail := false
      radio := .idle
      frameReady := false
      cursor := 0
      crc := crcSeed
      rssiNode := .node 3 }
    ((s1.bus (.setMode false false false)).bus .devReset).answer 0x0000

/-- PKTRDY (R134). -/
def execPktrdy (s : State) : Result :=
  if s.frameReady then
    let a := s.accept
    { a.2 with frameReady := false, radio := .idle }.answer (boolWord a.1)
  else if s.radio = .idle ∧ s.avail = true then s.armReceive.answer 0x0000
  else s.answer 0x0000

/-- CANTX (R135). -/
def execCantx (s : State) : Result :=
  if s.avail = true ∧ (s.radio = .idle ∨ s.radio = .receiving) then
    let s1 := s.bus (.setMode false false s.wakeEn)
    { s1 with radio := .idle, frameReady := false, cursor := 0 }.answer 0x0001
  else s.answer 0x0000

/-- TXBEGIN (R136). The length check comes first (R318). -/
def execTxbegin (hdr len : Byte) (data : List Byte) (s : State) : Result :=
  if len.toNat > s.cfg.maxPayload then s.answer 0x0001
  else if s.avail = false ∨ s.radio ≠ .idle then s.raiseFault .misuseTx
  else
    let s1 := { s with buf := s.buf.writeAll 0 (hdr :: len :: data), crc := crcSeed }
    let s2 := s1.bus (.setMode false true s1.wakeEn)
    let s3 := s2.bus (.txWrite s.cfg.preamble)
    { s3 with radio := .txPreamble }.answer 0x0000

/-- SETBRK (R137). -/
def execSetbrk (v : Bool) (s : State) : Result := { s with acceptBroken := v }.answer 0x0000

/-- The pseudo-operation `SEND hdr, data` (R107) with no service between its two operations: CANTX, and
TXBEGIN if the result was 0x0001. -/
def sendFrame (hdr len : Byte) (data : List Byte) (s : State) : Result :=
  match execCantx s with
  | .next t => if t.results.getLast? = some 0x0001 then execTxbegin hdr len data t else .next t
  | .fault f => .fault f
  | .refused r => .refused r

end Sys2Proof.Machine
end

