-- ==== Sys2Proof/Machine/Reserved.lean ====
section
/-! DEFINITION. The four reserved opcodes (R98): `refuse(RSV_OPCODE)`, whatever the other 28 bits are. -/

namespace Sys2Proof.Machine

/-- Opcode 0x0 (R98). -/
def execReservedOp0 (s : State) : Result := s.refuse .rsvOpcode

/-- Opcode 0xD (R98). -/
def execReservedOpD (s : State) : Result := s.refuse .rsvOpcode

/-- Opcode 0xE (R98). -/
def execReservedOpE (s : State) : Result := s.refuse .rsvOpcode

/-- Opcode 0xF (R98). -/
def execReservedOpF (s : State) : Result := s.refuse .rsvOpcode

end Sys2Proof.Machine
end

