-- ==== Sys2Proof/Machine/Transmit.lean ====
section
/-! DEFINITION. The transmit chain (R189 to R198): one step of it per transmit byte request. -/

namespace Sys2Proof.Machine

/-- Emit one byte and go to the next state (R190, R191, R194 to R197). -/
def State.emit (s : State) (b : Byte) (r : RadioState) : State :=
  { s.bus (.txWrite b) with radio := r }

/-- TxSync2 service (R192): the group id is emitted and reseeds the checksum. -/
def State.txSync2Step (s : State) : State :=
  let l := s.readBuf 1
  { l.2.emit s.ident.groupId (.txPayload (txStart l.1)) with
    crc := crc16Update crcSeed s.ident.groupId }

/-- TxPayload(k) service (R193). The byte is read once, emitted and fed (DEDUCED, log 15). An index
outside the buffer, which the invariant I-f excludes (R63), faults (log 14). -/
def State.txPayloadStep (s : State) (k : BitVec 8) : Result :=
  let l := s.readBuf 1
  let i := txIndex l.1 k
  if i < s.cfg.bufCap then
    let b := l.2.readBuf i
    .next { b.2.emit b.1 (if k + 1 = 0 then .txCrcHigh else .txPayload (k + 1)) with
      crc := crc16Update s.crc b.1 }
  else .fault (.bufIndex i)

/-- TxDone service (R198): the transmitter is disabled, no byte is written. -/
def State.txDoneStep (s : State) : State :=
  { s.bus (.setMode false false s.wakeEn) with radio := .idle }

/-- `EV_FIFO_TX` (R189): `fifo_tx()` runs the rule of the current `STATE`. Outside a transmit state the
event's trigger is false and no rule runs (log 16). -/
def execEvFifoTx (s : State) : Result :=
  match s.radio with
  | .txPreamble => .next (s.emit s.cfg.preamble .txSync1)
  | .txSync1 => .next (s.emit s.cfg.sync1 .txSync2)
  | .txSync2 => .next s.txSync2Step
  | .txPayload k => s.txPayloadStep k
  | .txCrcHigh => .next (s.emit (s.crc.extractLsb' 0 8) .txCrcLow)
  | .txCrcLow => .next (s.emit (s.crc.extractLsb' 8 8) .txTail1)
  | .txTail1 => .next (s.emit s.cfg.tail .txTail2)
  | .txTail2 => .next (s.emit s.cfg.tail .txDone)
  | .txDone => .next s.txDoneStep
  | .idle => .next s
  | .receiving => .next s

end Sys2Proof.Machine
end

