-- ==== Sys2Proof/Machine/WakeTimer.lean ====
section
/-! DEFINITION. The wake timer (44_wake_timer): the mantissa and exponent encoder, SLEEP and WOKE. -/

namespace Sys2Proof.Machine

/-- The loop of `wake_encode` (R270), with a bound on its turns. -/
def wakeLoop : Nat → Word → BitVec 5 → Byte × BitVec 5
  | 0, d, e => (d.extractLsb' 0 8, e)
  | n + 1, d, e => if d.toNat > 255 then wakeLoop n (d >>> 1) (e + 1) else (d.extractLsb' 0 8, e)

/-- `wake_encode(d)` (R270). A 32-bit value fits in 8 bits after at most 24 shifts (R271). -/
def wakeEncode (d : Word) : Byte × BitVec 5 := wakeLoop 24 d 0

/-- SLEEP (R272). -/
def execSleep (ms : Word) (s : State) : Result :=
  if s.init = false then s.raiseFault .notInit
  else if ms = 0 then (s.bus (.setMode s.rxOn s.txOn false)).answer 0x0000
  else
    let me := wakeEncode ms
    let s1 := s.bus (.setMode s.rxOn s.txOn false)
    let s2 := s1.bus (.wakeTimer me.1 me.2)
    let s3 := s2.bus (.setMode s2.rxOn s2.txOn true)
    { s3 with wakeM := me.1, wakeE := me.2 }.answer 0x0000

/-- WOKE (R273): read and clear. -/
def execWoke (s : State) : Result := { s with woke := false }.answer (boolWord s.woke)

end Sys2Proof.Machine
end

