-- ==== Sys2Proof/Machine/Dispatch.lean ====
section
/-! DEFINITION. The dispatch of an instruction to its meaning, one arm per row of the opcode table. -/

namespace Sys2Proof.Machine

def exec (i : Instr) (s : State) : Host.Outcome State Fault Refusal :=
  match i with
  -- host operations
  | .reinit node band group rate => Sys2Proof.Machine.execReinit node band group rate s
  | .pktrdy => Sys2Proof.Machine.execPktrdy s
  | .cantx => Sys2Proof.Machine.execCantx s
  | .txbegin hdr len data => Sys2Proof.Machine.execTxbegin hdr len data s
  | .sleep ms => Sys2Proof.Machine.execSleep ms s
  | .woke => Sys2Proof.Machine.execWoke s
  | .setbrk v => Sys2Proof.Machine.execSetbrk v s
  | .rdhdr => Sys2Proof.Machine.execRdhdr s
  | .rdlen => Sys2Proof.Machine.execRdlen s
  | .rddata idx => Sys2Proof.Machine.execRddata idx s
  | .rdrssi => Sys2Proof.Machine.execRdrssi s
  | .rdflags => Sys2Proof.Machine.execRdflags s
  -- reserved opcodes
  | .reservedOp0 _ => Sys2Proof.Machine.execReservedOp0 s
  | .reservedOpD _ => Sys2Proof.Machine.execReservedOpD s
  | .reservedOpE _ => Sys2Proof.Machine.execReservedOpE s
  | .reservedOpF _ => Sys2Proof.Machine.execReservedOpF s
  -- status events
  | .evPor _ => Sys2Proof.Machine.execEvPor s
  | .evWake _ => Sys2Proof.Machine.execEvWake s
  | .evOvf _ => Sys2Proof.Machine.execEvOvf s
  | .evFifoRx w b => Sys2Proof.Machine.execEvFifoRx w b s
  | .evFifoTx _ => Sys2Proof.Machine.execEvFifoTx s
  | .evFifoIgn _ => Sys2Proof.Machine.execEvFifoIgn s
  | .evNone _ => Sys2Proof.Machine.execEvNone s
  -- device words
  | .setMode rx tx wk => Sys2Proof.Machine.execSetMode rx tx wk s
  | .setRssi code => Sys2Proof.Machine.execSetRssi code s
  | .txWrite b => Sys2Proof.Machine.execTxWrite b s
  | .wakeTimer m e => Sys2Proof.Machine.execWakeTimer m e s
  | .devReset => Sys2Proof.Machine.execDevReset s
  | .status => Sys2Proof.Machine.execStatus s

end Sys2Proof.Machine
end

