-- ==== Sys2Proof/Machine/Service.lean ====
section
/-! DEFINITION. How a step comes by its instructions: a host command is decoded and executed (R130), a
service reads the status word and executes the events it reports in order (R180 to R182), and where no
input waits, the ISR runs a service with free draws (R317). -/

namespace Sys2Proof.Machine

/-- Execute a service's events in order (R182). -/
def execAll : List Instr → State → Result
  | [], s => .next s
  | i :: rest, s =>
    match exec i s with
    | .next t => execAll rest t
    | .fault f => .fault f
    | .refused r => .refused r

/-- `rxcase` (R181): does the status transaction continue with `FIFO_READ`? -/
def State.rxCase (s : State) (w : Half) : Bool :=
  s.init && (w.extractLsb' 13 3 == 0b100) && (s.radio == .receiving) && !s.frameReady

/-- The bus operations a service begins with: `STATUS` and, in the receive case, `FIFO_READ` (R181). -/
def State.readStatus (s : State) (w : Half) (b : Byte) : State :=
  if s.rxCase w then (s.bus (.status w)).bus (.fifoRead b) else s.bus (.status w)

/-- `service()` with the draws `w` and `b` (R181). -/
def State.service (s : State) (w : Half) (b : Byte) : Result :=
  if s.init then execAll (statusEvents w b s.fifoCase) (s.readStatus w b)
  else .next (s.readStatus w b)

/-- One host operation (R130): decode, then execute; a refused encoding ends the step with the mark. -/
def State.hostOp (s : State) (h : Word) (d : DataPhase) : Result :=
  match decodeHost h d with
  | .ok i => exec i s
  | .error c => s.refuse c

/-- One raw device word (the model's own input, log 9), read by the instance's words. -/
def State.busWord (s : State) (w : Half) : Result :=
  match decodeDevice s.cfg.words w with
  | some i => exec i s
  | none => .refused (.unknownDeviceWord w)

/-- One service whose status word and FIFO byte no input names: both are free values (log 2). -/
def State.freeService (s : State) : Result :=
  { s with draws := s.draws + 1 }.service (Config.freeStatus s.draws) (Config.freeFifo s.draws)

/-- One step of the agent that moves next, in a state with no mark. -/
def State.agentStep (s : State) : Result :=
  match s.inputs with
  | [] => s.freeService
  | .host h d :: rest => { s with inputs := rest }.hostOp h d
  | .irq w b :: rest => { s with inputs := rest }.service w b
  | .bus w :: rest => { s with inputs := rest }.busWord w

/-- One step: once a mark is set no agent has a further step (R40, R130, R180, R310). -/
def State.markedStep (s : State) : Result :=
  match s.faultMark, s.refusedMark with
  | some c, _ => .fault (.faultMark c)
  | none, some c => .refused (.refusedMark c)
  | none, none => s.agentStep

/-- Put the table word `w` where the next step fetches (log 11): a host command with the data phase
`zeroData`; a device word on the bus engine; a status word as the draw of a service, with `INIT` set, as a
service dispatches no event before the first REINIT (R181), and in `Idle` for a FIFO word, as
`decodeTableWord` reads it. -/
def State.placeWord (s : State) (nbits w : Nat) : State :=
  if nbits = 16 then
    match decodeDevice s.cfg.words (BitVec.ofNat 16 w) with
    | some _ => { s with inputs := .bus (BitVec.ofNat 16 w) :: s.inputs }
    | none =>
      { s with
        inputs := .irq (BitVec.ofNat 16 w) 0 :: s.inputs
        init := true
        radio := if (BitVec.ofNat 16 w).extractLsb' 13 3 = 0b100 then .idle else s.radio }
  else
    { s with inputs := .host (BitVec.ofNat 32 w) (zeroData (BitVec.ofNat 32 w)) :: s.inputs }

end Sys2Proof.Machine
end

