-- ==== Sys2Proof/Machine/Step.lean ====
section
/-! DEFINITION. One step of the machine, and the placing of a table word for the next step. -/

namespace Sys2Proof.Machine

/-- One atomic step (R71): a host operation or an interrupt service. -/
def step (s : State) : Host.Outcome State Fault Refusal := s.markedStep

/-- `s` with the table word placed where `step` takes its next instruction from. -/
def State.withFetchWord (s : State) (nbits w : Nat) : State := s.placeWord nbits w

end Sys2Proof.Machine
end

