-- ==== Sys2Proof/Safety.lean ====
section
/-! DEFINITION. What counts as a safe state: the invariant of R41 with the model's own parts, the checksum
invariants (R232, R233), the end states of R333, and the DEVICE premises of R331. -/

namespace Sys2Proof.Safety

open Sys2Proof.Machine

/-! ## End states and marks -/

/-- An end state is final when no mark is set (R333). -/
abbrev final (s : State) : Prop := s.faultMark = none ∧ s.refusedMark = none

/-- Quiescent (R333). -/
abbrev quiescent (s : State) : Prop :=
  final s ∧ ((s.radio = .idle ∧ s.frameReady = false) ∨ (s.radio = .receiving ∧ s.cursor = 0))

/-! ## The invariant -/

/-- A declared frame stands in the buffer: `BUF[1]` holds a length that fits (I-f, second half). -/
def frameDeclared (s : State) : Prop :=
  ∃ l : Byte, s.buf.read 1 = some l ∧ l.toNat ≤ s.cfg.maxPayload

/-- I-f: in `TxPayload(k)`, `-(2 + BUF[1]) <= k <= -1` and `BUF[1] <= MAX_PAYLOAD`. -/
def payloadInFrame (s : State) : Prop :=
  ∀ k, s.radio = .txPayload k →
    ∃ l : Byte, s.buf.read 1 = some l ∧ l.toNat ≤ s.cfg.maxPayload
      ∧ -(2 + (l.toNat : Int)) ≤ k.toInt ∧ k.toInt ≤ -1

/-- I-i: `complete(CURSOR)` is false; `BUF[1]` counts from `CURSOR = 2` on, when it has been received. -/
def incomplete (s : State) : Prop :=
  ∀ l : Byte, (2 ≤ s.cursor.toNat → s.buf.read 1 = some l) → completeWith s.cfg l s.cursor = false

/-- The most steps the RSSI search still takes from a position (R256): 3 from the start node, 2 from the
nodes 1 and 5, 1 from the nodes 0, 2 and 4, none from a terminal. -/
def searchLeft (r : RssiNode) : Nat :=
  match r with
  | .bucket _ => 0
  | .node n => if n = 3 then 3 else if n = 1 ∨ n = 5 then 2 else 1

/-- The invariants I-a to I-i of R41, and below them the model's own parts that make them inductive.
(I-g holds of every `RssiNode`: see `Obligations.RssiNodeCodesLegal`.) -/
structure Inv (s : State) : Prop where
  /-- I-a -/
  latched : s.frameReady = true → s.radio = .receiving ∧ s.rxOn = false
  /-- The transmitter is off while a completed frame waits: with I-a, what makes PKTRDY keep I-d. -/
  latchedTx : s.frameReady = true → s.txOn = false
  /-- I-b -/
  receiving : s.radio = .receiving → s.frameReady = false → s.rxOn = true ∧ s.txOn = false
  /-- I-c -/
  transmitting : s.radio.isTx = true → s.txOn = true ∧ s.rxOn = false
  /-- I-d -/
  idle : s.radio = .idle → s.rxOn = false ∧ s.txOn = false
  /-- I-e -/
  unavailable : s.avail = false → s.radio = .idle
  /-- I-f -/
  payload : payloadInFrame s
  /-- I-h -/
  cursor : s.cursor.toNat ≤ s.cfg.bufCap
  /-- I-i -/
  notComplete : s.radio = .receiving → s.frameReady = false → incomplete s
  /-- Before `TxPayload` the frame to send is already declared. -/
  declared : s.radio = .txPreamble ∨ s.radio = .txSync1 ∨ s.radio = .txSync2 → frameDeclared s
  /-- The bytes of the receive session so far have been written (R27, R133). -/
  stored : s.radio = .receiving → ∀ i, i < s.cursor.toNat → (s.buf.read i).isSome = true
  /-- The search makes one step a byte, so it has ended after 3 bytes (R256). -/
  searching : s.radio = .receiving → searchLeft s.rssiNode ≤ 3 - s.cursor.toNat
  /-- Availability comes only after a REINIT (R183). -/
  initialised : s.avail = true → s.init = true
  /-- The frame buffer's canonical form and range (R61). -/
  bufWf : s.buf.wf
  bufRange : ∀ x ∈ s.buf, x.1 < s.cfg.bufCap
  /-- The parameters are legal (R7). -/
  params : s.cfg.wf
  /-- No raw device word waits: no agent of the spec sends one (log 9). -/
  agents : ∀ x ∈ s.inputs, ∀ w, x ≠ .bus w

/-! ## The checksum invariants -/

/-- The bytes `BUF[0..n-1]`, an unwritten one read as 0 (only written ones are asked for below). -/
def framePrefix (s : State) (n : Nat) : List Byte :=
  (List.range n).map fun i => (s.buf.read i).getD 0

/-- The receive checksum domain (R233): in a receive session `CRC` has been fed the group id and every
byte received so far, and at completion `CRC_SNAP` holds that value. -/
def rxChecksum (s : State) : Prop :=
  (s.radio = .receiving →
    s.crc = crcFold crcSeed (s.ident.groupId :: framePrefix s s.cursor.toNat))
  ∧ (s.frameReady = true → s.crcSnap = s.crc)

/-- The transmit checksum domain (R232): in `TxPayload(k)` `CRC` has been fed the group id and the bytes
before the transmit position, and in `TxCrcHigh` and `TxCrcLow` the group id, header, length and payload. -/
def txChecksum (s : State) : Prop :=
  (∀ k l, s.radio = .txPayload k → s.buf.read 1 = some l →
    s.crc = crcFold crcSeed (s.ident.groupId :: framePrefix s (txIndex l k)))
  ∧ (∀ l, s.radio = .txCrcHigh ∨ s.radio = .txCrcLow → s.buf.read 1 = some l →
    s.crc = crcFold crcSeed (s.ident.groupId :: framePrefix s (2 + l.toNat)))

/-- While a frame is being sent, all of it stands in the buffer (R136, R193). -/
def txFrameStored (s : State) : Prop :=
  s.radio.isTx = true →
    ∃ l : Byte, s.buf.read 1 = some l ∧ l.toNat ≤ s.cfg.maxPayload
      ∧ ∀ i, i < 2 + l.toNat → (s.buf.read i).isSome = true

/-! ## Where an instruction stores -/

/-- Does the instruction store to `BUF[a]` (R64)? TXBEGIN stores the header, the length and the payload from
index 0; a receive service stores at the cursor. -/
def storesAt (i : Instr) (s : State) (a : Nat) : Prop :=
  match i with
  | .txbegin _ _ data => a < 2 + data.length
  | .evFifoRx _ _ => a = s.cursor.toNat
  | _ => False

/-! ## How many bus operations a step issues -/

/-- The most bus operations of a host operation (R358). -/
def hostBound (i : Instr) : Nat :=
  match i with
  | .reinit _ _ _ _ => 2
  | .pktrdy => 2
  | .cantx => 1
  | .txbegin _ _ _ => 2
  | .sleep _ => 3
  | _ => 0

/-- The most bus operations of a service with the status word `w` (R358), `STATUS` and the wake's `SET_MODE`
included. -/
def serviceBound (s : State) (w : Half) : Nat :=
  if s.init = false then 1
  else if w.getLsbD 14 then 3
  else if w.getLsbD 13 then (if s.radio = .receiving ∧ s.frameReady = false then 5 else 3)
  else if w.getLsbD 15 then
    (if s.radio = .receiving ∧ s.frameReady = false then 4 else if s.radio.isTx then 3 else 2)
  else 2

/-- The most bus operations of the next step (R358). -/
def stepBound (s : State) : Nat :=
  match s.inputs with
  | [] => serviceBound s (Config.freeStatus s.draws)
  | .irq w _ :: _ => serviceBound s w
  | .host h d :: _ =>
    match decodeHost h d with
    | .ok i => hostBound i
    | .error _ => 0
  | .bus _ :: _ => 1

/-! ## The reserved fields of the host formats -/

/-- The reserved bits of an opcode's format (R92 to R97). -/
def reservedBits (op : BitVec 4) : Word :=
  if op = 0x1 then 0x0C0000E0
  else if op = 0x4 then 0x0FFF0000
  else if op = 0x7 then 0x0FFFFFFE
  else if op = 0xA then 0x0FFFFF00
  else 0x0FFFFFFF

/-- The data phase an opcode's operation takes (R94, R95, R108). -/
def dataPhaseFits (h : Word) (d : DataPhase) : Prop :=
  if opField h = 0x4 then d.bytes.length = (h.extractLsb' 0 8).toNat ∧ d.words = []
  else if opField h = 0x5 then d.bytes = [] ∧ d.words.length = 1
  else d.bytes = [] ∧ d.words = []

/-- A reserved opcode (R98). -/
abbrev reservedOpcode (op : BitVec 4) : Prop := op = 0x0 ∨ op = 0xD ∨ op = 0xE ∨ op = 0xF

/-! ## Runs, fairness and the DEVICE premises -/

/-- What the neighbours do at every step of an endless run (R72, R310): the HOST's commands and the DEVICE's
draws, in any order. -/
abbrev Schedule := Nat → Input

/-- The state with one input waiting, and nothing after it. -/
def offer (s : State) (x : Input) : State := { s with inputs := [x] }

/-- An infinite run under a schedule: every step takes the schedule's next input and answers a next state. -/
def isRun (sched : Schedule) (r : Nat → State) : Prop :=
  ∀ n, step (offer (r n) (sched n)) = .next (r (n + 1))

/-- The agents of the spec take every step: no raw device word is sent (log 9). -/
def specAgents (sched : Schedule) : Prop := ∀ n w, sched n ≠ .bus w

/-- Weak fairness of the HOST (R357), whose program has not ended: it takes a step again and again. -/
def hostFair (sched : Schedule) : Prop := ∀ n, ∃ m, n ≤ m ∧ ∃ h d, sched m = .host h d

/-- The status word an input draws, where it is a service. -/
def serviceDraw (x : Input) : Option Half :=
  match x with
  | .irq w _ => some w
  | .host _ _ => none
  | .bus _ => none

/-- A FIFO event alone at the top: `s[15:13] = 0b100` (R331). -/
abbrev fifoDraw (w : Half) : Prop := w.extractLsb' 13 3 = 0b100

/-- `DEV_POR_LIVE` (R331): a `DEV_RESET` in the log is followed by a POR draw. -/
def devPorLive (sched : Schedule) (r : Nat → State) : Prop :=
  ∀ n, BusEntry.devReset ∈ (r (n + 1)).busLog.drop (r n).busLog.length →
    ∃ m, n < m ∧ ∃ w, serviceDraw (sched m) = some w ∧ w.getLsbD 14 = true

/-- `DEV_TX_LIVE` (R331). -/
def devTxLive (sched : Schedule) (r : Nat → State) : Prop :=
  ∀ n, (r n).radio.isTx = true → ∃ m, n ≤ m ∧ ∃ w, serviceDraw (sched m) = some w ∧ fifoDraw w

/-- `DEV_RX_LIVE` (R331). -/
def devRxLive (sched : Schedule) (r : Nat → State) : Prop :=
  ∀ n, (r n).radio = .receiving → (r n).frameReady = false →
    ∃ m, n ≤ m ∧ ∃ w, serviceDraw (sched m) = some w ∧ fifoDraw w

/-- `DEV_QUIET` (R331), which rules out the storm of R357. -/
def devQuiet (sched : Schedule) (r : Nat → State) : Prop :=
  ∀ n w, (r n).radio = .idle → serviceDraw (sched n) = some w → w.getLsbD 15 = false

end Sys2Proof.Safety
end

