-- ==== Sys2Proof/Certificates/Slice0/Obligations.lean ====
section
/-! DEFINITION. The statements about the packet-engine core, each from the spec's rules. Every statement is
about every state of every instance unless a hypothesis says otherwise. -/

open Sys2Proof Sys2Proof.Machine Sys2Proof.Safety

/-! ## Encodings -/

/-- R91 to R97: one word of every format, written out from the spec's bit layouts, decodes to its
operation with its operands. -/
def Obligations.HostWordsDecodeAsLaidOut : Prop :=
  decodeHost 0x1206D407 {} = .ok (.reinit 7 2 212 6)
  ∧ decodeHost 0x13FF001F {} = .ok (.reinit 31 3 0 255)
  ∧ decodeHost 0x20000000 {} = .ok .pktrdy
  ∧ decodeHost 0x30000000 {} = .ok .cantx
  ∧ decodeHost 0x40000702 { bytes := [0x11, 0x22] } = .ok (.txbegin 7 2 [0x11, 0x22])
  ∧ decodeHost 0x50000000 { words := [600] } = .ok (.sleep 600)
  ∧ decodeHost 0x60000000 {} = .ok .woke
  ∧ decodeHost 0x70000001 {} = .ok (.setbrk true)
  ∧ decodeHost 0x80000000 {} = .ok .rdhdr
  ∧ decodeHost 0x90000000 {} = .ok .rdlen
  ∧ decodeHost 0xA0000002 {} = .ok (.rddata 2)
  ∧ decodeHost 0xB0000000 {} = .ok .rdrssi
  ∧ decodeHost 0xC0000000 {} = .ok .rdflags
  ∧ decodeHost 0xD0000001 {} = .ok (.reservedOpD 1)
  ∧ decodeDevice DeviceWords.default 0x82DF = some (.setMode true false true)
  ∧ decodeDevice DeviceWords.default 0xE296 = some (.wakeTimer 150 2)

/-- R102, R182: the events of a status word, in the order a service handles them. -/
def Obligations.StatusWordEventsInOrder : Prop :=
  ∀ (w : Half) (b : Byte) (c : FifoCase),
    (w.getLsbD 14 = true → statusEvents w b c = [.evPor w])
    ∧ (w.getLsbD 14 = false → w.getLsbD 13 = true →
        statusEvents w b c = .evOvf w :: (if w.getLsbD 12 then [.evWake w] else []))
    ∧ (w.getLsbD 14 = false → w.getLsbD 13 = false → w.getLsbD 15 = true →
        statusEvents w b c
          = (match c with
              | .rx => Instr.evFifoRx w b
              | .tx => .evFifoTx w
              | .ignored => .evFifoIgn w) :: (if w.getLsbD 12 then [.evWake w] else []))
    ∧ (w.getLsbD 14 = false → w.getLsbD 13 = false → w.getLsbD 15 = false →
        statusEvents w b c = if w.getLsbD 12 then [.evWake w] else [.evNone w])

/-- Decode of encode is the instruction, for every well-formed instruction and every value of its
operands; a status word gives its events in the case of R186 that selects them. The device words are those of
the opcode table. -/
def Obligations.DecodeOfEncodeIsTheInstruction : Prop :=
  ∀ i : Instr, i.wf = true →
    match encode i with
    | .host h d => decodeHost h d = .ok i
    | .irq w b => ∃ c : FifoCase, i ∈ statusEvents w b c
    | .bus w => decodeDevice DeviceWords.default w = some i

/-- Encode of decode is the word: no two words of a port share a meaning and no bit is dropped, for the
device port whatever the instance's words are. Only the data phase sent with a reserved opcode is not part of
the instruction. Three choices of the model bear on it: the form of an instance's device words (log 7, DESIGN
CHOICE), a data phase refused where the operation has none (log 17, DEDUCED), and the order in which the
device words are tested, the reset word before the wake timer (log 22, DESIGN CHOICE). -/
def Obligations.EncodeOfDecodeIsTheWord : Prop :=
  (∀ (h : Word) (d : DataPhase) (i : Instr), decodeHost h d = .ok i →
      i.wf = true ∧ ∃ d', encode i = .host h d' ∧ (d' = d ∨ reservedOpcode (opField h)))
  ∧ (∀ (dw : DeviceWords) (w : Half) (i : Instr), decodeDevice dw w = some i → encodeWith dw i = .bus w)
  ∧ (∀ (w : Half) (i : Instr), decodeDevice DeviceWords.default w = some i → i.wf = true)
  ∧ (∀ (w : Half) (b : Byte) (c : FifoCase) (i : Instr), i ∈ statusEvents w b c →
      i.wf = true ∧ ∃ b', encode i = .irq w b')

/-- R98, R318: a host command word is refused for a reserved field that is not zero, and else for a data
phase that is not its operation's, and for nothing else; a reserved opcode decodes to its own
instruction. -/
def Obligations.RefusedEncodingsByCause : Prop :=
  ∀ (h : Word) (d : DataPhase),
    (reservedOpcode (opField h) → ∃ i, decodeHost h d = .ok i
      ∧ (∀ s, exec i s = .next { s with refusedMark := some .rsvOpcode }))
    ∧ (¬ reservedOpcode (opField h) → h &&& reservedBits (opField h) ≠ 0 →
        decodeHost h d = .error .rsvField)
    ∧ (¬ reservedOpcode (opField h) → h &&& reservedBits (opField h) = 0 → ¬ dataPhaseFits h d →
        decodeHost h d = .error .dataPhase)
    ∧ (¬ reservedOpcode (opField h) → h &&& reservedBits (opField h) = 0 → dataPhaseFits h d →
        ∃ i, decodeHost h d = .ok i)

/-! ## Steps -/

/-- R130: a step whose next agent is the HOST takes the command off the port, and is the decoded
operation's execution, or the refusal of its encoding. -/
def Obligations.StepRunsTheDecodedHostOperation : Prop :=
  ∀ (s : State) (h : Word) (d : DataPhase) (rest : List Input),
    final s → s.inputs = .host h d :: rest →
    (∀ i, decodeHost h d = .ok i → step s = exec i { s with inputs := rest })
    ∧ (∀ c, decodeHost h d = .error c →
        step s = .next { s with inputs := rest, refusedMark := some c })

/-- R181, R182: a step whose next agent is the ISR logs `STATUS`, then `FIFO_READ` in the receive case
alone, and then, once `INIT` is set, executes the events of the status word one after the other, each in
the state the one before it left. -/
def Obligations.StepRunsTheService : Prop :=
  (∀ s : State, execAll [] s = .next s)
  ∧ (∀ (i : Instr) (rest : List Instr) (s t : State), exec i s = .next t →
    execAll (i :: rest) s = execAll rest t)
  ∧ (∀ (i : Instr) (rest : List Instr) (s : State), (∀ t, exec i s ≠ .next t) →
    execAll (i :: rest) s = exec i s)
  ∧ ∀ (s : State) (w : Half) (b : Byte) (rest : List Input),
    final s → s.inputs = .irq w b :: rest →
    (s.init = false →
      step s = .next { s with inputs := rest, busLog := s.busLog ++ [.status w] })
    ∧ (s.init = true → s.radio = .receiving → s.frameReady = false → w.extractLsb' 13 3 = 0b100 →
        step s = execAll (statusEvents w b .rx)
          { s with inputs := rest, busLog := s.busLog ++ [.status w, .fifoRead b] })
    ∧ (s.init = true → s.radio = .receiving → s.frameReady = false → w.extractLsb' 13 3 ≠ 0b100 →
        step s = execAll (statusEvents w b .rx)
          { s with inputs := rest, busLog := s.busLog ++ [.status w] })
    ∧ (s.init = true → s.radio.isTx = true →
        step s = execAll (statusEvents w b .tx)
          { s with inputs := rest, busLog := s.busLog ++ [.status w] })
    ∧ (s.init = true → (s.radio = .idle ∨ (s.radio = .receiving ∧ s.frameReady = true)) →
        step s = execAll (statusEvents w b .ignored)
          { s with inputs := rest, busLog := s.busLog ++ [.status w] })

/-- Log 2 (DESIGN CHOICE): with no input waiting a step is a service whose two draws are free values, so
whatever they are a step does what a service with some draws does. -/
def Obligations.StepWithoutInputIsAServiceWithFreeDraws : Prop :=
  ∀ s : State, final s → s.inputs = [] →
    ∃ (w : Half) (b : Byte), step s = step { s with inputs := [.irq w b], draws := s.draws + 1 }

/-- R40: once a mark is set no agent has a further step. R311, R313: the values of the codes. -/
def Obligations.MarkedMachineHasNoStep : Prop :=
  (∀ s : State, ¬ final s → ∀ t, step s ≠ .next t)
  ∧ FaultCode.misuseTx.value = 1 ∧ FaultCode.notInit.value = 2
  ∧ RefusalCode.rsvOpcode.value = 1 ∧ RefusalCode.rsvField.value = 2 ∧ RefusalCode.dataPhase.value = 3
  ∧ RefusalCode.badBand.value = 4 ∧ RefusalCode.indexRange.value = 5

/-- R312, R313: the step that sets a mark changes nothing else, and an instruction sets at most one. -/
def Obligations.MarkIsTheOnlyChange : Prop :=
  ∀ (i : Instr) (s t : State), exec i s = .next t →
    (t.faultMark ≠ s.faultMark → t = { s with faultMark := t.faultMark })
    ∧ (t.refusedMark ≠ s.refusedMark → t = { s with refusedMark := t.refusedMark })

/-! ## Host operations -/

/-- R131: REINIT with a legal band; with band code 0; its words; and the words whose reserved bits are
set. -/
def Obligations.ReinitSetsIdentityAndRestartsEngine : Prop :=
  (∀ (node : BitVec 5) (band : BitVec 2) (group rate : Byte) (s : State), band ≠ 0 →
    exec (.reinit node band group rate) s = .next { s with
      ident := { nodeId := node.setWidth 8, groupId := group, band := band, dataRate := rate }
      init := true, avail := false, radio := .idle, frameReady := false, cursor := 0
      crc := 0xFFFF, rssiNode := .node 3, rxOn := false, txOn := false, wakeEn := false
      busLog := s.busLog ++ [.setMode false false false, .devReset]
      results := s.results ++ [0x0000] })
  ∧ (∀ (node : BitVec 5) (group rate : Byte) (s : State),
    exec (.reinit node 0 group rate) s = .next { s with refusedMark := some .badBand })
  ∧ (∀ h : Word, opField h = 0x1 → h.extractLsb' 26 2 = 0 → h.extractLsb' 5 3 = 0 →
    decodeHost h {} = .ok (.reinit (h.extractLsb' 0 5) (h.extractLsb' 24 2) (h.extractLsb' 8 8)
      (h.extractLsb' 16 8)))
  ∧ (∀ (h : Word) (d : DataPhase), opField h = 0x1 →
    (h.extractLsb' 26 2 ≠ 0 ∨ h.extractLsb' 5 3 ≠ 0) → decodeHost h d = .error .rsvField)

/-- R132, R134: PKTRDY in `Idle` with `AVAIL = 1` arms a receive session and returns false; with nothing
to do it returns false and changes nothing. -/
def Obligations.PktrdyArmsTheReceiver : Prop :=
  decodeHost 0x20000000 {} = .ok .pktrdy
  ∧ (∀ s : State, s.frameReady = false → s.radio = .idle → s.avail = true →
    exec .pktrdy s = .next { s with
      cursor := 0, crc := crc16Update 0xFFFF s.ident.groupId, rssiNode := .node 3
      radio := .receiving, rxOn := true, txOn := false
      busLog := s.busLog ++ [.setRssi s.cfg.rssiCode[3], .setMode true false s.wakeEn]
      results := s.results ++ [0x0000] })
  ∧ (∀ s : State, s.frameReady = false → (s.radio ≠ .idle ∨ s.avail = false) →
    exec .pktrdy s = .next { s with results := s.results ++ [0x0000] })

/-- R133: PKTRDY on a completed frame, whose header and length have been received, clears the latch,
returns to `Idle`, and returns true exactly when the length fits, the address matches and the checksum is
valid or broken frames are accepted. -/
def Obligations.PktrdyEvaluatesTheFrame : Prop :=
  ∀ (s : State) (h l : Byte), s.frameReady = true →
    s.buf.read 0 = some h → s.buf.read 1 = some l →
    ∃ r : Half, exec .pktrdy s = .next { s with
        frameReady := false, radio := .idle, results := s.results ++ [r] }
      ∧ (r = 0x0001 ∨ r = 0x0000)
      ∧ (r = 0x0001 ↔
          l.toNat ≤ s.cfg.maxPayload
          ∧ (s.cfg.addrFilter = false ∨ h.getLsbD s.cfg.hdrBcastBit.val = true
              ∨ (h.extractLsb' 0 5).setWidth 8 = s.ident.nodeId)
          ∧ (s.crcSnap = 0x0000 ∨ s.acceptBroken = true))

/-- R135: CANTX claims the channel and returns true exactly in `Idle` or `Receiving` with `AVAIL = 1`;
else it returns false and changes nothing. -/
def Obligations.CantxClaimsTheChannel : Prop :=
  decodeHost 0x30000000 {} = .ok .cantx
  ∧ (∀ s : State, s.avail = true → (s.radio = .idle ∨ s.radio = .receiving) →
    exec .cantx s = .next { s with
      radio := .idle, frameReady := false, cursor := 0, rxOn := false, txOn := false
      busLog := s.busLog ++ [.setMode false false s.wakeEn]
      results := s.results ++ [0x0001] })
  ∧ (∀ s : State, (s.avail = false ∨ s.radio.isTx = true) →
    exec .cantx s = .next { s with results := s.results ++ [0x0000] })

/-- R136: TXBEGIN stores the frame, reseeds the checksum, enables the transmitter, arms the first
preamble byte and enters `TxPreamble`; a payload too large is an error result in any state; a misuse
raises the fault; and its words, with exactly `len` data bytes or refused. -/
def Obligations.TxbeginStoresTheFrameAndStarts : Prop :=
  (∀ (hdr len : Byte) (data : List Byte) (s : State), data.length = len.toNat →
    len.toNat ≤ s.cfg.maxPayload → s.avail = true → s.radio = .idle →
    ∃ t : State, exec (.txbegin hdr len data) s = .next t
      ∧ t.buf.read 0 = some hdr ∧ t.buf.read 1 = some len
      ∧ (∀ i, i < len.toNat → t.buf.read (2 + i) = data[i]?)
      ∧ (∀ a, 2 + len.toNat ≤ a → t.buf.read a = s.buf.read a)
      ∧ t = { s with
          buf := t.buf, crc := 0xFFFF, radio := .txPreamble, rxOn := false, txOn := true
          busLog := s.busLog ++ [.setMode false true s.wakeEn, .txWrite s.cfg.preamble]
          results := s.results ++ [0x0000] })
  ∧ (∀ (hdr len : Byte) (data : List Byte) (s : State), len.toNat > s.cfg.maxPayload →
    exec (.txbegin hdr len data) s = .next { s with results := s.results ++ [0x0001] })
  ∧ (∀ (hdr len : Byte) (data : List Byte) (s : State), len.toNat ≤ s.cfg.maxPayload →
    (s.avail = false ∨ s.radio ≠ .idle) →
    exec (.txbegin hdr len data) s = .next { s with faultMark := some .misuseTx })
  ∧ (∀ (h : Word) (d : DataPhase), opField h = 0x4 → h.extractLsb' 16 12 = 0 → d.words = [] →
    (d.bytes.length = (h.extractLsb' 0 8).toNat →
      decodeHost h d = .ok (.txbegin (h.extractLsb' 8 8) (h.extractLsb' 0 8) d.bytes))
    ∧ (d.bytes.length ≠ (h.extractLsb' 0 8).toNat → decodeHost h d = .error .dataPhase))

/-- R107: `SEND` in `Idle` or `Receiving` with `AVAIL = 1` starts the transmission of its frame. -/
def Obligations.SendStartsTheTransmission : Prop :=
  ∀ (hdr len : Byte) (data : List Byte) (s : State), data.length = len.toNat →
    len.toNat ≤ s.cfg.maxPayload → s.avail = true → (s.radio = .idle ∨ s.radio = .receiving) →
    ∃ t : State, sendFrame hdr len data s = .next t
      ∧ t.radio = .txPreamble ∧ t.txOn = true ∧ t.rxOn = false
      ∧ t.buf.read 0 = some hdr ∧ t.buf.read 1 = some len
      ∧ (∀ i, i < len.toNat → t.buf.read (2 + i) = data[i]?)
      ∧ t.results = s.results ++ [0x0001, 0x0000]

/-- R137: SETBRK writes the setting and nothing else; its words, and those whose reserved bits are set. -/
def Obligations.SetbrkWritesTheSetting : Prop :=
  (∀ (v : Bool) (s : State), exec (.setbrk v) s = .next { s with
    acceptBroken := v, results := s.results ++ [0x0000] })
  ∧ (∀ v : Bool, decodeHost (0x70000000 ||| (BitVec.ofBool v).setWidth 32) {} = .ok (.setbrk v))
  ∧ (∀ (h : Word) (d : DataPhase), opField h = 0x7 → h.extractLsb' 1 27 ≠ 0 →
    decodeHost h d = .error .rsvField)

/-- R272: SLEEP takes its data word; before the first REINIT faults; with delay 0 it turns the wake source off; else it stops
the pending wake, programs the encoding of R270 and arms the wake source. -/
def Obligations.SleepArmsTheWakeTimer : Prop :=
  (∀ ms : Word, decodeHost 0x50000000 { words := [ms] } = .ok (.sleep ms))
  ∧ (∀ d : DataPhase, d.words = [] → decodeHost 0x50000000 d = .error .dataPhase)
  ∧ (∀ (ms : Word) (s : State), s.init = false →
    exec (.sleep ms) s = .next { s with faultMark := some .notInit })
  ∧ (∀ s : State, s.init = true → exec (.sleep 0) s = .next { s with
      wakeEn := false, busLog := s.busLog ++ [.setMode s.rxOn s.txOn false]
      results := s.results ++ [0x0000] })
  ∧ (∀ (ms : Word) (s : State), s.init = true → ms ≠ 0 → exec (.sleep ms) s = .next { s with
      wakeEn := true, wakeM := (wakeEncode ms).1, wakeE := (wakeEncode ms).2
      busLog := s.busLog ++ [.setMode s.rxOn s.txOn false,
        .wakeTimer (wakeEncode ms).1 (wakeEncode ms).2, .setMode s.rxOn s.txOn true]
      results := s.results ++ [0x0000] })

/-- R273: WOKE returns the latch and clears it. -/
def Obligations.WokeReadsAndClears : Prop :=
  decodeHost 0x60000000 {} = .ok .woke
  ∧ ∀ s : State,
    (s.woke = true → exec .woke s = .next { s with
      woke := false, results := s.results ++ [0x0001] })
    ∧ (s.woke = false → exec .woke s = .next { s with results := s.results ++ [0x0000] })

/-- R138, R139, R140: the accessors return the addressed byte zero-extended and change nothing of the
spec's state; a byte never written reads as a free value (R26), fresh on each read; RDDATA refuses an
index outside the buffer. -/
def Obligations.AccessorsReturnBufferBytes : Prop :=
  (∀ (s : State) (b : Byte), s.buf.read 0 = some b →
    exec .rdhdr s = .next { s with results := s.results ++ [b.setWidth 16] })
  ∧ (∀ (s : State) (b : Byte), s.buf.read 1 = some b →
    exec .rdlen s = .next { s with results := s.results ++ [b.setWidth 16] })
  ∧ (∀ (idx : Byte) (s : State) (b : Byte), 2 + idx.toNat < s.cfg.bufCap →
    s.buf.read (2 + idx.toNat) = some b →
    exec (.rddata idx) s = .next { s with results := s.results ++ [b.setWidth 16] })
  ∧ (∀ s : State, s.buf.read 0 = none → ∃ b : Byte, exec .rdhdr s = .next { s with
      draws := s.draws + 1, results := s.results ++ [b.setWidth 16] })
  ∧ (∀ s : State, s.buf.read 1 = none → ∃ b : Byte, exec .rdlen s = .next { s with
      draws := s.draws + 1, results := s.results ++ [b.setWidth 16] })
  ∧ (∀ (idx : Byte) (s : State), 2 + idx.toNat < s.cfg.bufCap →
    s.buf.read (2 + idx.toNat) = none →
    ∃ b : Byte, exec (.rddata idx) s = .next { s with
      draws := s.draws + 1, results := s.results ++ [b.setWidth 16] })
  ∧ (∀ (idx : Byte) (s : State), s.cfg.bufCap ≤ 2 + idx.toNat →
    exec (.rddata idx) s = .next { s with refusedMark := some .indexRange })

/-- R141, R255: RDRSSI returns the bucket's dBm sign-extended, or 0 while the search has not ended. -/
def Obligations.RdrssiReturnsTheEstimate : Prop :=
  decodeHost 0xB0000000 {} = .ok .rdrssi
  ∧ (∀ (s : State) (n : Fin 6), s.rssiNode = .node n →
    exec .rdrssi s = .next { s with results := s.results ++ [0x0000] })
  ∧ (∀ (s : State) (j : Fin 7), s.rssiNode = .bucket j →
    ∃ r : Half, exec .rdrssi s = .next { s with results := s.results ++ [r] }
      ∧ r.toInt = -106 + 6 * (j.val : Int))

/-- R142: every bit of the RDFLAGS result. R24: the tags and offsets of `STATE`. -/
def Obligations.RdflagsReportsEveryFlag : Prop :=
  decodeHost 0xC0000000 {} = .ok .rdflags
  ∧ ∀ s : State, ∃ r : Half, exec .rdflags s = .next { s with results := s.results ++ [r] }
    ∧ r.getLsbD 0 = s.avail ∧ r.getLsbD 1 = s.init ∧ r.getLsbD 2 = s.frameReady
    ∧ r.getLsbD 3 = s.acceptBroken ∧ r.getLsbD 4 = s.rxOn ∧ r.getLsbD 5 = s.txOn
    ∧ r.getLsbD 6 = s.wakeEn ∧ (r.getLsbD 7 = true ↔ s.crcSnap = 0x0000)
    ∧ r.extractLsb' 8 4 = s.radio.tag ∧ r.extractLsb' 12 4 = 0
    ∧ (s.radio = .idle → s.radio.tag = 0x0) ∧ (s.radio = .receiving → s.radio.tag = 0x1)
    ∧ (s.radio = .txPreamble → s.radio.tag = 0x2) ∧ (s.radio = .txSync1 → s.radio.tag = 0x3)
    ∧ (s.radio = .txSync2 → s.radio.tag = 0x4)
    ∧ (∀ k, s.radio = .txPayload k → s.radio.tag = 0x5 ∧ s.radio.txoff = k)
    ∧ (s.radio = .txCrcHigh → s.radio.tag = 0x6) ∧ (s.radio = .txCrcLow → s.radio.tag = 0x7)
    ∧ (s.radio = .txTail1 → s.radio.tag = 0x8) ∧ (s.radio = .txTail2 → s.radio.tag = 0x9)
    ∧ (s.radio = .txDone → s.radio.tag = 0xA)
    ∧ ((∀ k, s.radio ≠ .txPayload k) → s.radio.txoff = 0)

/-- R98, R313: each reserved opcode, whatever its other bits, sets the refusal mark and nothing else. -/
def Obligations.ReservedOpcodesAreRefused : Prop :=
  ∀ (low : BitVec 28) (s : State),
    exec (.reservedOp0 low) s = .next { s with refusedMark := some .rsvOpcode }
    ∧ exec (.reservedOpD low) s = .next { s with refusedMark := some .rsvOpcode }
    ∧ exec (.reservedOpE low) s = .next { s with refusedMark := some .rsvOpcode }
    ∧ exec (.reservedOpF low) s = .next { s with refusedMark := some .rsvOpcode }

/-! ## Status events -/

/-- R183: the POR handler and its trigger. -/
def Obligations.PorConfiguresAndMakesAvailable : Prop :=
  (∀ (w : Half) (b : Byte) (c : FifoCase), .evPor w ∈ statusEvents w b c ↔ w.getLsbD 14 = true)
  ∧ ∀ (w : Half) (s : State), exec (.evPor w) s = .next { s with
    avail := true, radio := .idle, frameReady := false, cursor := 0
    rxOn := false, txOn := false, wakeEn := false
    busLog := s.busLog ++ [.config s.ident, .setMode false false false] }

/-- R184: the wake handler and its trigger. -/
def Obligations.WakeEventSetsTheLatchOnce : Prop :=
  (∀ (w : Half) (b : Byte) (c : FifoCase),
    .evWake w ∈ statusEvents w b c ↔ w.getLsbD 12 = true ∧ w.getLsbD 14 = false)
  ∧ ∀ (w : Half) (s : State), exec (.evWake w) s = .next { s with
    woke := true, wakeEn := false, busLog := s.busLog ++ [.setMode s.rxOn s.txOn false] }

/-- R185: the overflow event's trigger; it re-arms a receive in progress, aborts a transmission, and else
does nothing. -/
def Obligations.OverflowRearmsOrAborts : Prop :=
  (∀ (w : Half) (b : Byte) (c : FifoCase),
    .evOvf w ∈ statusEvents w b c ↔ w.getLsbD 13 = true ∧ w.getLsbD 14 = false)
  ∧ (∀ (w : Half) (s : State), s.radio = .receiving → s.frameReady = false →
    exec (.evOvf w) s = .next { s with
      cursor := 0, crc := crc16Update 0xFFFF s.ident.groupId, rssiNode := .node 3
      radio := .receiving, rxOn := true, txOn := false
      busLog := s.busLog ++ [.setMode false false s.wakeEn, .setRssi s.cfg.rssiCode[3],
        .setMode true false s.wakeEn] })
  ∧ (∀ (w : Half) (s : State), s.radio.isTx = true →
    exec (.evOvf w) s = .next { s with
      radio := .idle, rxOn := false, txOn := false
      busLog := s.busLog ++ [.setMode false false s.wakeEn] })
  ∧ (∀ (w : Half) (s : State),
    (s.radio = .idle ∨ (s.radio = .receiving ∧ s.frameReady = true)) →
    exec (.evOvf w) s = .next s)

/-- R187, R188, R253: one received byte is stored at the cursor and fed to the checksum; the search, while
it has not ended, makes one step and programs the threshold of a node it lands on; and exactly when the
frame is complete the receiver goes off, the checksum is snapshot and the latch set. `l` is the length
byte, which counts from the second byte on. The trigger is R186 (a). -/
def Obligations.ReceiveServiceStoresAndFeeds : Prop :=
  (∀ (w : Half) (b : Byte) (s : State), .evFifoRx w b ∈ statusEvents w b s.fifoCase ↔
    w.extractLsb' 13 3 = 0b100 ∧ s.radio = .receiving ∧ s.frameReady = false)
  ∧ ∀ (w : Half) (b l : Byte) (s : State), s.cfg.wf → s.cursor.toNat < s.cfg.bufCap →
    (1 ≤ s.cursor.toNat → (if s.cursor.toNat = 1 then some b else s.buf.read 1) = some l) →
    ∃ (t : State) (es : List BusEntry), exec (.evFifoRx w b) s = .next t
      ∧ (∀ a, t.buf.read a = if a = s.cursor.toNat then some b else s.buf.read a)
      ∧ t.crc = crc16Update s.crc b ∧ t.cursor = s.cursor + 1
      ∧ ((∃ j, s.rssiNode = .bucket j) → t.rssiNode = s.rssiNode ∧ es = [])
      ∧ (∀ n, s.rssiNode = .node n →
          t.rssiNode = (if w.getLsbD s.cfg.rssiBit.val then rssiUp n else rssiDown n)
          ∧ (∀ m : Fin 6, t.rssiNode = .node m → es = [.setRssi s.cfg.rssiCode[m]])
          ∧ (∀ j, t.rssiNode = .bucket j → es = []))
      ∧ (((2 ≤ s.cursor.toNat + 1 ∧ s.cursor.toNat + 1 > l.toNat + 3)
            ∨ s.cursor.toNat + 1 = s.cfg.bufCap) →
          t = { s with
            buf := t.buf, crc := t.crc, cursor := t.cursor, rssiNode := t.rssiNode
            frameReady := true, crcSnap := t.crc, rxOn := false, txOn := false
            busLog := s.busLog ++ es ++ [.setMode false false s.wakeEn] })
      ∧ (¬ ((2 ≤ s.cursor.toNat + 1 ∧ s.cursor.toNat + 1 > l.toNat + 3)
            ∨ s.cursor.toNat + 1 = s.cfg.bufCap) →
          t = { s with
            buf := t.buf, crc := t.crc, cursor := t.cursor, rssiNode := t.rssiNode
            busLog := s.busLog ++ es })

/-- R190, R191, R194 to R198: what each state of the transmit chain but TxSync2 and TxPayload emits, and
where it goes. -/
def Obligations.TransmitChainEmitsAndAdvances : Prop :=
  ∀ (w : Half) (s : State),
    (s.radio = .txPreamble → exec (.evFifoTx w) s = .next { s with
      radio := .txSync1, busLog := s.busLog ++ [.txWrite s.cfg.preamble] })
    ∧ (s.radio = .txSync1 → exec (.evFifoTx w) s = .next { s with
      radio := .txSync2, busLog := s.busLog ++ [.txWrite s.cfg.sync1] })
    ∧ (s.radio = .txCrcHigh → exec (.evFifoTx w) s = .next { s with
      radio := .txCrcLow, busLog := s.busLog ++ [.txWrite (s.crc.extractLsb' 0 8)] })
    ∧ (s.radio = .txCrcLow → exec (.evFifoTx w) s = .next { s with
      radio := .txTail1, busLog := s.busLog ++ [.txWrite (s.crc.extractLsb' 8 8)] })
    ∧ (s.radio = .txTail1 → exec (.evFifoTx w) s = .next { s with
      radio := .txTail2, busLog := s.busLog ++ [.txWrite s.cfg.tail] })
    ∧ (s.radio = .txTail2 → exec (.evFifoTx w) s = .next { s with
      radio := .txDone, busLog := s.busLog ++ [.txWrite s.cfg.tail] })
    ∧ (s.radio = .txDone → exec (.evFifoTx w) s = .next { s with
      radio := .idle, rxOn := false, txOn := false
      busLog := s.busLog ++ [.setMode false false s.wakeEn] })

/-- R192, R193: TxSync2 emits the group id, reseeds the checksum with it and enters `TxPayload` with
offset `-(2 + BUF[1])`; TxPayload(k) emits and feeds `BUF[(2 + BUF[1]) + k]` and moves to the next
offset, after -1 to TxCrcHigh. -/
def Obligations.TransmitPayloadRunsOverTheFrame : Prop :=
  (∀ (w : Half) (l : Byte) (s : State), s.radio = .txSync2 → s.buf.read 1 = some l →
    l.toNat ≤ 126 →
    ∃ k : BitVec 8, k.toInt = -(2 + (l.toNat : Int))
      ∧ exec (.evFifoTx w) s = .next { s with
          radio := .txPayload k, crc := crc16Update 0xFFFF s.ident.groupId
          busLog := s.busLog ++ [.txWrite s.ident.groupId] })
  ∧ (∀ (w : Half) (l b : Byte) (k : BitVec 8) (i : Nat) (s : State),
    s.radio = .txPayload k → s.buf.read 1 = some l → l.toNat ≤ s.cfg.maxPayload → s.cfg.wf →
    -(2 + (l.toNat : Int)) ≤ k.toInt → k.toInt ≤ -1 →
    (i : Int) = 2 + l.toNat + k.toInt → s.buf.read i = some b →
    exec (.evFifoTx w) s = .next { s with
      radio := if k.toInt = -1 then .txCrcHigh else .txPayload (k + 1)
      crc := crc16Update s.crc b
      busLog := s.busLog ++ [.txWrite b] })

/-- R199: an ignored FIFO event changes nothing, and its service only logs its `STATUS` read; EV_NONE
changes nothing either. -/
def Obligations.IgnoredEventsChangeNothing : Prop :=
  (∀ (w : Half) (s : State),
    exec (.evFifoIgn w) s = .next s ∧ exec (.evNone w) s = .next s)
  ∧ (∀ (w : Half) (b : Byte) (s : State),
    (s.radio = .idle ∨ (s.radio = .receiving ∧ s.frameReady = true)) →
    w.extractLsb' 13 3 = 0b100 → w.getLsbD 12 = false →
    s.service w b = .next { s with busLog := s.busLog ++ [.status w] })

/-! ## The device port -/

/-- R66: each device word of the table, executed, is its bus operation: one log entry, and for SET_MODE
the three mirrors. The response of STATUS is a free value (log 3). -/
def Obligations.DeviceWordsAreBusOperations : Prop :=
  ∀ s : State,
    (∀ rx tx wk, exec (.setMode rx tx wk) s = .next { s with
      rxOn := rx, txOn := tx, wakeEn := wk, busLog := s.busLog ++ [.setMode rx tx wk] })
    ∧ (∀ code, exec (.setRssi code) s = .next { s with busLog := s.busLog ++ [.setRssi code] })
    ∧ (∀ b, exec (.txWrite b) s = .next { s with busLog := s.busLog ++ [.txWrite b] })
    ∧ (∀ m e, exec (.wakeTimer m e) s = .next { s with busLog := s.busLog ++ [.wakeTimer m e] })
    ∧ exec .devReset s = .next { s with busLog := s.busLog ++ [.devReset] }
    ∧ (∃ v, exec .status s = .next { s with
        busLog := s.busLog ++ [.status v], draws := s.draws + 1 })

/-- R104 (PRESUMED, log 7): the default word of every bus operation, by its fields, and the wake word of a
legal exponent never equals the reset word. R11, R66: with any device words, each operation sends its opcode
with the images of its operand's set bits (DESIGN CHOICE, log 7), and CONFIG the OPEN sequence of its identity
(log 8). R68 (PRESUMED, log 21): the words sent and the responses go most significant bit first. -/
def Obligations.BusOperationWords : Prop :=
  (∀ rx tx wk : Bool, ∃ u : Half, (BusEntry.setMode rx tx wk).words .default = [u]
    ∧ u.extractLsb' 8 8 = 0x82 ∧ u.getLsbD 7 = rx ∧ u.getLsbD 6 = rx ∧ u.getLsbD 5 = tx
    ∧ u.getLsbD 4 = (rx || tx) ∧ u.getLsbD 3 = true ∧ u.getLsbD 2 = true ∧ u.getLsbD 1 = wk
    ∧ u.getLsbD 0 = true)
  ∧ (∀ code : BitVec 3, ∃ u : Half, (BusEntry.setRssi code).words .default = [u]
    ∧ u.extractLsb' 0 3 = code ∧ u.extractLsb' 3 13 = 0x1294)
  ∧ (∀ b : Byte, ∃ u : Half, (BusEntry.txWrite b).words .default = [u]
    ∧ u.extractLsb' 0 8 = b ∧ u.extractLsb' 8 8 = 0xB8)
  ∧ (∀ (m : Byte) (e : BitVec 5), ∃ u : Half, (BusEntry.wakeTimer m e).words .default = [u]
    ∧ u.extractLsb' 0 8 = m ∧ u.extractLsb' 8 5 = e ∧ u.extractLsb' 13 3 = 0b111
    ∧ (e.toNat ≤ 24 → u ≠ 0xFE00))
  ∧ BusEntry.devReset.words .default = [0xFE00]
  ∧ (∀ (dw : DeviceWords) (v : Half), (BusEntry.status v).words dw = [0x0000])
  ∧ (∀ dw : DeviceWords, BusEntry.devReset.words dw = [dw.reset])
  ∧ (∀ (dw : DeviceWords) (rx tx wk : Bool), ∃ u : Half, (BusEntry.setMode rx tx wk).words dw = [u]
    ∧ ∀ i, u.getLsbD i = (dw.pm.op.getLsbD i
        || (rx && (dw.pm.bits[2]).getLsbD i) || (tx && (dw.pm.bits[1]).getLsbD i)
        || (wk && (dw.pm.bits[0]).getLsbD i)))
  ∧ (∀ (dw : DeviceWords) (code : BitVec 3), ∃ u : Half, (BusEntry.setRssi code).words dw = [u]
    ∧ ∀ i, u.getLsbD i = (dw.rssi.op.getLsbD i
        || decide (∃ k : Fin 3, code.getLsbD k = true ∧ (dw.rssi.bits[k]).getLsbD i = true)))
  ∧ (∀ (dw : DeviceWords) (b : Byte), ∃ u : Half, (BusEntry.txWrite b).words dw = [u]
    ∧ ∀ i, u.getLsbD i = (dw.txw.op.getLsbD i
        || decide (∃ k : Fin 8, b.getLsbD k = true ∧ (dw.txw.bits[k]).getLsbD i = true)))
  ∧ (∀ (dw : DeviceWords) (m : Byte) (e : BitVec 5), ∃ u : Half,
    (BusEntry.wakeTimer m e).words dw = [u]
    ∧ ∀ i, u.getLsbD i = (dw.wake.op.getLsbD i
        || decide (∃ k : Fin 8, m.getLsbD k = true ∧ (dw.wake.bits[k.val]).getLsbD i = true)
        || decide (∃ k : Fin 5, e.getLsbD k = true ∧ (dw.wake.bits[8 + k.val]).getLsbD i = true)))
  ∧ (∀ (dw : DeviceWords) (id : Ident), (BusEntry.config id).words dw = Config.configSeq id)
  ∧ (∀ (dw : DeviceWords) (e : BusEntry), (e.wire dw).length = 16 * (e.words dw).length
    ∧ ∀ (j : Nat) (u : Half), (e.words dw)[j]? = some u →
        ∀ i, i < 16 → (e.wire dw)[16 * j + i]? = some (u.getLsbD (15 - i)))
  ∧ (∀ (v : Half) (i : Nat), i < 16 →
      (BusEntry.status v).wireIn[i]? = some (v.getLsbD (15 - i)))
  ∧ (∀ (b : Byte) (dw : DeviceWords), (BusEntry.fifoRead b).wireIn.length = 8
      ∧ (BusEntry.fifoRead b).wire dw = []
      ∧ ∀ i, i < 8 → (BusEntry.fifoRead b).wireIn[i]? = some (b.getLsbD (7 - i)))

/-! ## Datapaths -/

/-- R230: the one-byte update is the eight rounds of the pseudocode, and its corner cases. -/
def Obligations.CrcUpdateIsEightRounds : Prop :=
  (∀ (crc : Half) (b : Byte), ∃ c : Nat → Half, c 0 = crc ^^^ b.setWidth 16
    ∧ (∀ n, c (n + 1) = if (c n).getLsbD 0 then (c n >>> 1) ^^^ 0xA001 else c n >>> 1)
    ∧ crc16Update crc b = c 8)
  ∧ (∀ c : Half, crc16Update c (c.extractLsb' 0 8) = (c.extractLsb' 8 8).setWidth 16)
  ∧ crc16Update 0x0000 0x00 = 0x0000 ∧ crc16Update 0xFFFF 0xFF = 0x00FF
  ∧ crc16Update 0x0000 0x80 = 0xA001 ∧ crc16Update 0xFFFF 0xD4 = 0x1FBF

/-- R236: after any byte sequence, from the seed or any accumulator, the trailer brings the accumulator
to 0. -/
def Obligations.ChecksumRoundTrip : Prop :=
  ∀ (c : Half) (xs : List Byte), crcFold c (xs ++ crcTrailer (crcFold c xs)) = 0x0000

/-- R250, R253, R256: the search from node 3 ends within 3 steps, always-above in bucket 6 and
always-below in bucket 0. -/
def Obligations.RssiSearchEndsInThreeSteps : Prop :=
  (∀ (s : State) (a₁ a₂ a₃ : Bool), s.rssiNode = .node 3 →
    ∃ j, (((s.rssiStep a₁).rssiStep a₂).rssiStep a₃).rssiNode = .bucket j)
  ∧ (∀ s : State, s.rssiNode = .node 3 →
    ((s.rssiStep true).rssiStep true).rssiNode = .bucket 6)
  ∧ (∀ s : State, s.rssiNode = .node 3 →
    (((s.rssiStep false).rssiStep false).rssiStep false).rssiNode = .bucket 0)

/-- R258: for a signal that exceeds exactly the first `j` thresholds, the bucket is `j`. -/
def Obligations.RssiSearchCountsThresholds : Prop :=
  ∀ (s : State) (j : Fin 7), s.rssiNode = .node 3 →
    ∀ f : State → State,
      (∀ u : State, f u = u.rssiStep (match u.rssiNode with
        | .node n => decide (n.val < j.val)
        | .bucket _ => false)) →
      (f (f (f s))).rssiNode = .bucket j

/-- R270: the encoding drops the low `e` bits of the request, so it rounds down, and uses the smallest
exponent whose mantissa fits; R271: that is at most 24. -/
def Obligations.WakeEncodeRoundsDown : Prop :=
  ∀ (d : Word) (m : Byte) (e : BitVec 5), d ≠ 0 → wakeEncode d = (m, e) →
    m.toNat * 2 ^ e.toNat = d.toNat - d.toNat % 2 ^ e.toNat
    ∧ m.toNat * 2 ^ e.toNat ≤ d.toNat ∧ d.toNat < (m.toNat + 1) * 2 ^ e.toNat ∧ e.toNat ≤ 24
    ∧ (d.toNat ≤ 255 → e = 0 ∧ m.toNat = d.toNat)
    ∧ (256 ≤ d.toNat → 128 ≤ m.toNat ∧ 1 ≤ e.toNat)

/-- I-g of R41: the 4-bit code of `RSSI_NODE` is 0 to 5 or 8 to 14, terminal exactly when bit 3 is
set. R31: a node's code is its index. -/
def Obligations.RssiNodeCodesLegal : Prop :=
  (∀ n : Fin 6, (RssiNode.node n).code.toNat = n.val)
  ∧ ∀ r : RssiNode, (r.code.toNat ≤ 5 ∨ (8 ≤ r.code.toNat ∧ r.code.toNat ≤ 14))
    ∧ (r.code.getLsbD 3 = true ↔ ∃ j : Fin 7, r = .bucket j ∧ r.code.toNat = 8 + j.val)

/-! ## Reset and invariants -/

/-- R341: the values the spec gives the state after core reset. `IDENT` is one free value for all parameters
(log 5). -/
def Obligations.ResetLeavesTheStatedValues : Prop :=
  ∃ id : Ident, ∀ (p : Params) (s : State), s = State.resetOf p →
    s.init = false ∧ s.ident = id ∧ s.radio = .idle ∧ s.radio.tag = 0 ∧ s.radio.txoff = 0
    ∧ (∀ a, s.buf.read a = none) ∧ s.cursor = 0 ∧ s.crc = 0xFFFF ∧ s.crcSnap = 0xFFFF
    ∧ s.frameReady = false ∧ s.rssiNode.code = 3 ∧ s.avail = false ∧ s.acceptBroken = false
    ∧ s.rxOn = false ∧ s.txOn = false ∧ s.wakeEn = false ∧ s.wakeM = 0 ∧ s.wakeE = 0
    ∧ s.woke = false ∧ s.busLog = [] ∧ s.faultMark = none ∧ s.refusedMark = none

/-- The invariant holds at reset, for every legal instance. -/
def Obligations.ResetMeetsTheInvariant : Prop :=
  (∀ p : Params, p.wf → Inv (State.resetOf p)) ∧ Inv State.reset

/-- R41, R144, R203: every step keeps the invariants I-a to I-i. -/
def Obligations.StepKeepsTheInvariant : Prop :=
  ∀ s t : State, Inv s → step s = .next t → Inv t

/-- R301: in a state that meets the invariant and has no mark, whatever the neighbours do, the machine
has a next state: no service and no host operation is fatal. -/
def Obligations.InvariantStateAlwaysHasAStep : Prop :=
  ∀ s : State, Inv s → final s → ∃ t, step s = .next t

/-- R233: every step keeps the receive checksum domain. -/
def Obligations.StepKeepsTheReceiveChecksum : Prop :=
  ∀ s t : State, Inv s → rxChecksum s → step s = .next t → rxChecksum t

/-- R232: every step keeps the frame to send in the buffer and the transmit checksum domain. -/
def Obligations.StepKeepsTheTransmitChecksum : Prop :=
  ∀ s t : State, Inv s → txFrameStored s → txChecksum s → step s = .next t →
    txFrameStored t ∧ txChecksum t

/-! ## Frames: who writes what -/

/-- R64: only TXBEGIN and the receive service write the frame buffer, each only at the indices it stores
to. -/
def Obligations.BufferWriters : Prop :=
  ∀ (i : Instr) (s t : State) (a : Nat), exec i s = .next t → ¬ storesAt i s a →
    t.buf.read a = s.buf.read a

/-- R25: the complete list of the writers of `STATE`. -/
def Obligations.RadioStateWriters : Prop :=
  ∀ (i : Instr) (s t : State), exec i s = .next t → t.radio ≠ s.radio →
    i = .pktrdy ∨ i = .cantx ∨ (∃ hdr len data, i = .txbegin hdr len data)
    ∨ (∃ node band group rate, i = .reinit node band group rate)
    ∨ (∃ w, i = .evPor w) ∨ (∃ w, i = .evOvf w) ∨ (∃ w, i = .evFifoTx w)

/-- R21, R23: only REINIT writes `IDENT` and `INIT`, and nothing writes the parameters or takes an input
but the step itself. -/
def Obligations.IdentityWrittenOnlyByReinit : Prop :=
  ∀ (i : Instr) (s t : State), exec i s = .next t →
    ((t.ident ≠ s.ident ∨ t.init ≠ s.init) →
      (∃ node band group rate, i = .reinit node band group rate) ∧ t.init = true)
    ∧ t.cfg = s.cfg ∧ t.inputs = s.inputs

/-- R30, R32, R33, R38: who sets and who clears each latch and flag. -/
def Obligations.LatchWriters : Prop :=
  ∀ (i : Instr) (s t : State), exec i s = .next t →
    (s.frameReady = false → t.frameReady = true → ∃ w b, i = .evFifoRx w b)
    ∧ (s.frameReady = true → t.frameReady = false →
        i = .pktrdy ∨ i = .cantx ∨ (∃ w, i = .evPor w)
        ∨ (∃ node band group rate, i = .reinit node band group rate))
    ∧ (s.avail = false → t.avail = true → ∃ w, i = .evPor w)
    ∧ (s.avail = true → t.avail = false → ∃ node band group rate, i = .reinit node band group rate)
    ∧ (t.acceptBroken ≠ s.acceptBroken → ∃ v, i = .setbrk v)
    ∧ (s.woke = false → t.woke = true → ∃ w, i = .evWake w)
    ∧ (s.woke = true → t.woke = false → i = .woke)

/-- R27 to R29, R31, R37, R131, R257: who writes the engine's data registers. -/
def Obligations.EngineRegisterWriters : Prop :=
  ∀ (i : Instr) (s t : State), exec i s = .next t →
    (t.crcSnap ≠ s.crcSnap → ∃ w b, i = .evFifoRx w b)
    ∧ ((t.wakeM ≠ s.wakeM ∨ t.wakeE ≠ s.wakeE) → ∃ ms, i = .sleep ms ∧ ms ≠ 0)
    ∧ (t.rssiNode ≠ s.rssiNode →
        i = .pktrdy ∨ (∃ node band group rate, i = .reinit node band group rate)
        ∨ (∃ w, i = .evOvf w)
        ∨ (∃ w b n, i = .evFifoRx w b ∧ s.rssiNode = .node n))
    ∧ (t.cursor ≠ s.cursor →
        i = .pktrdy ∨ i = .cantx ∨ (∃ node band group rate, i = .reinit node band group rate)
        ∨ (∃ w, i = .evPor w) ∨ (∃ w, i = .evOvf w) ∨ (∃ w b, i = .evFifoRx w b))
    ∧ (t.crc ≠ s.crc →
        i = .pktrdy ∨ (∃ node band group rate, i = .reinit node band group rate)
        ∨ (∃ hdr len data, i = .txbegin hdr len data) ∨ (∃ w, i = .evOvf w)
        ∨ (∃ w b, i = .evFifoRx w b)
        ∨ (∃ w, i = .evFifoTx w ∧ (s.radio = .txSync2 ∨ ∃ k, s.radio = .txPayload k)))

/-- R34 to R36, R39: a step only appends to the bus log, and the three mirrors are what the appended
`SET_MODE` operations commanded last. -/
def Obligations.MirrorsFollowTheBusLog : Prop :=
  ∀ s t : State, step s = .next t →
    ∃ es : List BusEntry, t.busLog = s.busLog ++ es
      ∧ t.rxOn = es.foldl (fun v e => e.rxAfter v) s.rxOn
      ∧ t.txOn = es.foldl (fun v e => e.txAfter v) s.txOn
      ∧ t.wakeEn = es.foldl (fun v e => e.wakeAfter v) s.wakeEn

/-- R358: in a state that meets the invariant, a step appends at most as many bus operations as the spec's
table gives its kind, and never more than 5. -/
def Obligations.BusOperationsPerStepAreBounded : Prop :=
  ∀ s t : State, Inv s → step s = .next t →
    t.busLog.length ≤ s.busLog.length + stepBound s ∧ stepBound s ≤ 5

/-- R38, R37: no instruction but WOKE reveals the wake latch, and none reveals the wake encoding: with
other values of these registers an instruction does the same to everything else. -/
def Obligations.WakeRegistersAreHidden : Prop :=
  ∀ (i : Instr) (s t : State), exec i s = .next t →
    (i ≠ .woke → ∀ v, ∃ t', exec i { s with woke := v } = .next t' ∧ { t' with woke := t.woke } = t)
    ∧ (∀ m e, ∃ t', exec i { s with wakeM := m, wakeE := e } = .next t'
        ∧ { t' with wakeM := t.wakeM, wakeE := t.wakeE } = t)

/-- R22: nothing reads `IDENT` while `INIT = 0`: with another identity a step does the same to everything
else. -/
def Obligations.IdentityUnreadBeforeReinit : Prop :=
  ∀ (s t : State) (id : Ident), Inv s → s.init = false → step s = .next t →
    ∃ t', step { s with ident := id } = .next t' ∧ { t' with ident := t.ident } = t

/-- R355, R356, R143: in `Idle` a service keeps the permission to transmit and the delivered frame. -/
def Obligations.IdleServicesKeepPermissionAndFrame : Prop :=
  ∀ (s t : State), s.radio = .idle → s.frameReady = false →
    (s.inputs = [] ∨ ∃ w b rest, s.inputs = .irq w b :: rest) → step s = .next t →
    t.radio = .idle ∧ t.frameReady = false ∧ (s.avail = true → t.avail = true)
    ∧ t.buf = s.buf ∧ t.crcSnap = s.crcSnap ∧ t.rssiNode = s.rssiNode ∧ t.crc = s.crc
    ∧ t.results = s.results

/-! ## Whole frames -/

/-- R69, R200, R232, R234: a TXBEGIN and then `L + 10` transmit requests put the whole frame on the air,
trailer low byte first, and return to `Idle`. -/
def Obligations.TransmissionEmitsTheFrame : Prop :=
  ∀ (s : State) (hdr len : Byte) (data : List Byte) (draws : List (Half × Byte)) (rest : List Input),
    final s → s.cfg.wf → s.init = true → s.avail = true → s.radio = .idle →
    data.length = len.toNat → len.toNat ≤ s.cfg.maxPayload →
    draws.length = len.toNat + 10 → (∀ x ∈ draws, fifoDraw x.1) →
    s.inputs = encode (.txbegin hdr len data) :: (draws.map fun x => .irq x.1 x.2) ++ rest →
    ∃ t : State, Sys2Proof.core.run (len.toNat + 11) s = .next t
      ∧ t.radio = .idle ∧ t.txOn = false ∧ t.inputs = rest ∧ final t
      ∧ airBytes t.busLog = airBytes s.busLog
          ++ [s.cfg.preamble, s.cfg.preamble, s.cfg.sync1, s.ident.groupId, hdr, len] ++ data
          ++ crcTrailer (crcFold 0xFFFF (s.ident.groupId :: hdr :: len :: data))
          ++ [s.cfg.tail, s.cfg.tail]

/-- R201, R233: from a freshly armed receiver, the bytes of a frame whose declared length fits complete it
with the last of them and not before, are all in the buffer, and have all been fed after the group
id. -/
def Obligations.ReceptionCompletesTheFrame : Prop :=
  ∀ (s : State) (len : Byte) (bytes : List Byte) (words : List Half) (rest : List Input),
    final s → s.cfg.wf → s.init = true → s.radio = .receiving → s.frameReady = false →
    s.cursor = 0 → s.crc = crc16Update 0xFFFF s.ident.groupId →
    len.toNat ≤ s.cfg.maxPayload → bytes.length = len.toNat + 4 → bytes[1]? = some len →
    words.length = bytes.length → (∀ w ∈ words, fifoDraw w) →
    s.inputs = (List.zipWith (fun w b => Input.irq w b) words bytes) ++ rest →
    (∀ n, n < len.toNat + 4 →
      ∃ u : State, Sys2Proof.core.run n s = .next u ∧ u.radio = .receiving ∧ u.frameReady = false)
    ∧ ∃ t : State, Sys2Proof.core.run (len.toNat + 4) s = .next t
      ∧ t.radio = .receiving ∧ t.frameReady = true ∧ t.rxOn = false ∧ t.inputs = rest
      ∧ t.crcSnap = crcFold 0xFFFF (s.ident.groupId :: bytes)
      ∧ (∀ i, i < len.toNat + 4 → t.buf.read i = bytes[i]?)

/-- R201, R188, R133: a frame that declares more than `MAX_PAYLOAD` stops when the buffer is full, and
PKTRDY then rejects it whatever the other tests say. -/
def Obligations.OverlongFrameIsRejected : Prop :=
  ∀ (s : State) (len : Byte) (bytes : List Byte) (words : List Half) (rest : List Input),
    final s → s.cfg.wf → s.init = true → s.radio = .receiving → s.frameReady = false →
    s.cursor = 0 → len.toNat > s.cfg.maxPayload → bytes.length = s.cfg.bufCap →
    bytes[1]? = some len → words.length = bytes.length → (∀ w ∈ words, fifoDraw w) →
    s.inputs = (List.zipWith (fun w b => Input.irq w b) words bytes)
      ++ encode .pktrdy :: rest →
    (∀ n, n < s.cfg.bufCap →
      ∃ u : State, Sys2Proof.core.run n s = .next u ∧ u.frameReady = false)
    ∧ (∃ u : State, Sys2Proof.core.run s.cfg.bufCap s = .next u ∧ u.frameReady = true)
    ∧ ∃ t : State, Sys2Proof.core.run (s.cfg.bufCap + 1) s = .next t
      ∧ t.radio = .idle ∧ t.frameReady = false ∧ t.results = s.results ++ [0x0000]

/-- The transmit-to-receive loopback of 95 section 1.2 (R69, R133, R201, R236): the bytes a transmitter
puts on the air after the sync bytes, received by an armed core of the same group that they address, are
delivered with the payload intact. -/
def Obligations.TransmittedFrameIsDelivered : Prop :=
  ∀ (s : State) (hdr len : Byte) (data : List Byte) (words : List Half) (rest : List Input),
    final s → s.cfg.wf → s.init = true → s.radio = .receiving → s.frameReady = false →
    s.cursor = 0 → s.crc = crc16Update 0xFFFF s.ident.groupId →
    data.length = len.toNat → len.toNat ≤ s.cfg.maxPayload →
    (s.cfg.addrFilter = false ∨ hdrBcast s.cfg hdr = true ∨ hdrDst hdr = s.ident.nodeId) →
    words.length = len.toNat + 4 → (∀ w ∈ words, fifoDraw w) →
    s.inputs = (List.zipWith (fun w b => Input.irq w b) words
        (hdr :: len :: data
          ++ crcTrailer (crcFold 0xFFFF (s.ident.groupId :: hdr :: len :: data))))
      ++ encode .pktrdy :: rest →
    ∃ t : State, Sys2Proof.core.run (len.toNat + 5) s = .next t
      ∧ t.radio = .idle ∧ t.crcSnap = 0x0000 ∧ t.inputs = rest
      ∧ t.results = s.results ++ [0x0001]
      ∧ t.buf.read 0 = some hdr ∧ t.buf.read 1 = some len
      ∧ (∀ i, i < len.toNat → t.buf.read (2 + i) = data[i]?)

/-- R331, R310: under the DEVICE premise DEV_TX_LIVE a transmission ends: from any transmit state of a run
that meets the invariant, the core comes back to `Idle`. -/
def Obligations.TransmissionEndsUnderDeviceLiveness : Prop :=
  ∀ (sched : Schedule) (r : Nat → State), specAgents sched → isRun sched r → Inv (r 0) →
    devTxLive sched r →
    ∀ n, (r n).radio.isTx = true → ∃ m, n ≤ m ∧ (r m).radio = .idle

/-- R310, R357: the two hangs are runs of the machine. A HOST that polls RDFLAGS while no POR comes reads
`AVAIL = 0` for ever; and a DEVICE that keeps reporting a FIFO event in `Idle`, or with a completed frame,
takes every step, whatever its draws are otherwise, which HOST fairness excludes. -/
def Obligations.PollingAndStormAreRuns : Prop :=
  (∀ s : State, final s → s.avail = false →
    ∃ r, isRun (fun _ => encode .rdflags) r ∧ r 0 = s
      ∧ ∀ n, (r n).avail = false ∧ ∃ w : Half, w.getLsbD 0 = false
        ∧ r (n + 1) = { r n with inputs := [], results := (r n).results ++ [w] })
  ∧ (∀ (s : State) (w : Nat → Half) (b : Nat → Byte), final s →
    (s.radio = .idle ∨ (s.radio = .receiving ∧ s.frameReady = true)) →
    (∀ n, fifoDraw (w n) ∧ (w n).getLsbD 12 = false) →
    ¬ hostFair (fun n => .irq (w n) (b n))
    ∧ ∃ r, isRun (fun n => .irq (w n) (b n)) r ∧ r 0 = s
      ∧ ∀ n, r (n + 1) = { r n with inputs := [], busLog := (r n).busLog ++ [.status (w n)] })
end

