-- ==== Sys2Proof/Laws/Checksum.lean ====
section
/-! SUPPORT. The laws of the checksum engine that its callers cite (R230, R231). -/

namespace Sys2Proof.Machine

@[simp] theorem crcFold_nil (c : Half) : crcFold c [] = c := rfl

@[simp] theorem crcFold_cons (c : Half) (b : Byte) (bs : List Byte) :
    crcFold c (b :: bs) = crcFold (crc16Update c b) bs := rfl

/-- The fold over a concatenation. -/
theorem crcFold_append (c : Half) (xs ys : List Byte) :
    crcFold c (xs ++ ys) = crcFold (crcFold c xs) ys := by
  induction xs generalizing c with
  | nil => rfl
  | cons x xs ih => exact ih _

/-- Feeding one more byte. -/
theorem crcFold_concat (c : Half) (xs : List Byte) (b : Byte) :
    crcFold c (xs ++ [b]) = crc16Update (crcFold c xs) b := crcFold_append c xs [b]

end Sys2Proof.Machine
end

