-- ==== Sys2Proof/Laws/DeviceWords.lean ====
section
/-! SUPPORT. The laws of a device word with embedded operand bits (R11), and the closed forms of the default
words (R104), and the length and bits of what is clocked (R68). -/

namespace Sys2Proof

/-- What is read is what was written. -/
theorem WordForm.read_some {n : Nat} {f : WordForm n} {w : Half} {v : BitVec n}
    (h : f.read w = some v) : f.word v = w := by
  unfold WordForm.read at h
  split at h
  · cases h
    assumption
  · cases h

/-- `PM_WORD` at the defaults (R104). -/
theorem pmWord_default (rx tx wk : Bool) :
    pmWord .default rx tx wk = 0x820D ||| (if rx then 0x00D0 else 0) ||| (if tx then 0x0030 else 0)
      ||| (if wk then 0x0002 else 0) := by
  cases rx <;> cases tx <;> cases wk <;> rfl

/-- `RSSI_WORD` at the defaults (R104). -/
theorem rssiWord_default (code : BitVec 3) :
    rssiWord .default code = 0x94A0 ||| code.setWidth 16 := by
  revert code
  decide

@[simp] theorem orFields_nil (v : Nat → Bool) (i : Nat) : orFields v [] i = 0 := rfl

/-- One bit of the embedded operand: some set bit of the operand has it in its image. -/
@[simp] theorem orFields_cons_getLsbD (v : Nat → Bool) (m : Half) (rest : List Half) (i j : Nat) :
    (orFields v (m :: rest) i).getLsbD j
      = ((v i && m.getLsbD j) || (orFields v rest (i + 1)).getLsbD j) := by
  cases h : v i <;> simp [orFields, h]

/-- `TXW_WORD` at the defaults (R104). -/
theorem txwWord_default (b : Byte) : txwWord .default b = 0xB800 ||| b.setWidth 16 := by
  refine BitVec.eq_of_getLsbD_eq fun i hi => ?_
  have hb : DeviceWords.default.txw.bits.toList
      = [0x01, 0x02, 0x04, 0x08, 0x10, 0x20, 0x40, 0x80] := rfl
  simp only [txwWord, WordForm.word, hb, BitVec.getLsbD_or, orFields_cons_getLsbD, orFields_nil]
  interval_cases i <;> simp [DeviceWords.default]

/-- `WAKE_WORD` at the defaults (R104). -/
theorem wakeWord_default (m : Byte) (e : BitVec 5) :
    wakeWord .default m e = 0xE000 ||| (e.setWidth 16 <<< 8) ||| m.setWidth 16 := by
  refine BitVec.eq_of_getLsbD_eq fun i hi => ?_
  have hb : DeviceWords.default.wake.bits.toList
      = [0x01, 0x02, 0x04, 0x08, 0x10, 0x20, 0x40, 0x80,
        0x0100, 0x0200, 0x0400, 0x0800, 0x1000] := rfl
  simp only [wakeWord, WordForm.word, hb, BitVec.getLsbD_or, orFields_cons_getLsbD, orFields_nil,
    BitVec.getLsbD_append]
  interval_cases i <;> simp [DeviceWords.default]

/-- A word of `n` bits is clocked in `n` bits (R68). -/
@[simp] theorem Machine.wireBits_length {n : Nat} (v : BitVec n) : (Machine.wireBits v).length = n := by
  simp [Machine.wireBits]

/-- The bit clocked at place `i` is the `i`-th from the most significant end (R68). -/
theorem Machine.wireBits_getElem? {n : Nat} (v : BitVec n) {i : Nat} (h : i < n) :
    (Machine.wireBits v)[i]? = some (v.getLsbD (n - 1 - i)) := by
  simp [Machine.wireBits, h, BitVec.getMsbD]

end Sys2Proof
end

