-- ==== Sys2Proof/Laws/Memory.lean ====
section
/-! SUPPORT. The laws of the frame buffer: read after write, what a write leaves alone, and that every
operation keeps the canonical form. -/

namespace Sys2Proof.Machine

@[simp] theorem Memory.read_nil (a : Nat) : Memory.read [] a = none := rfl

@[simp] theorem Memory.read_cons (x a : Nat) (b : Byte) (m : Memory) :
    Memory.read ((x, b) :: m) a = if x = a then some b else Memory.read m a := rfl

/-- Read after write. -/
theorem Memory.read_write (m : Memory) (a i : Nat) (b : Byte) :
    (m.write a b).read i = if i = a then some b else m.read i := by
  induction m with
  | nil => simp only [Memory.write, read_cons, read_nil]; grind
  | cons x rest ih =>
    obtain ⟨y, c⟩ := x
    simp only [Memory.write]
    split
    · simp only [read_cons]; grind
    · split
      · simp only [read_cons]; grind
      · simp only [read_cons, ih]; grind

@[simp] theorem Memory.read_write_same (m : Memory) (a : Nat) (b : Byte) :
    (m.write a b).read a = some b := by simp [Memory.read_write]

theorem Memory.read_write_other (m : Memory) {a i : Nat} (b : Byte) (h : i ≠ a) :
    (m.write a b).read i = m.read i := by simp [Memory.read_write, h]

/-- A written buffer lists nothing but the byte written and what was listed. -/
theorem Memory.mem_write {m : Memory} {a : Nat} {b : Byte} {x : Host.Cell} (h : x ∈ m.write a b) :
    x = (a, b) ∨ x ∈ m := by
  induction m with
  | nil => simpa [Memory.write] using h
  | cons y rest ih =>
    obtain ⟨y, c⟩ := y
    simp only [Memory.write] at h
    split at h
    · simpa using h
    · split at h
      · simp only [List.mem_cons] at h ⊢; tauto
      · simp only [List.mem_cons] at h ⊢
        rcases h with h | h
        · tauto
        · have := ih h; tauto

/-- A write keeps the canonical form. -/
theorem Memory.write_wf {m : Memory} (h : m.wf) (a : Nat) (b : Byte) : (m.write a b).wf := by
  induction m with
  | nil => simp [Memory.write, Memory.wf]
  | cons y rest ih =>
    obtain ⟨y, c⟩ := y
    have h' := List.pairwise_cons.mp h
    simp only [Memory.write]
    split
    · refine List.pairwise_cons.mpr ⟨?_, h⟩
      intro x hx
      rcases List.mem_cons.mp hx with rfl | hx
      · assumption
      · exact lt_trans ‹_› (h'.1 x hx)
    · split
      · exact List.pairwise_cons.mpr ⟨fun x hx => by have := h'.1 x hx; simp only at this ⊢; omega, h'.2⟩
      · refine List.pairwise_cons.mpr ⟨?_, ih h'.2⟩
        intro x hx
        rcases Memory.mem_write hx with rfl | hx
        · simp only; omega
        · exact h'.1 x hx

/-- Writing consecutive bytes keeps the canonical form. -/
theorem Memory.writeAll_wf {m : Memory} (h : m.wf) (a : Nat) (bs : List Byte) :
    (m.writeAll a bs).wf := by
  induction bs generalizing m a with
  | nil => exact h
  | cons b rest ih => exact ih (Memory.write_wf h a b) (a + 1)

/-- Read after writing consecutive bytes. -/
theorem Memory.read_writeAll (m : Memory) (a i : Nat) (bs : List Byte) :
    (m.writeAll a bs).read i
      = if a ≤ i ∧ i < a + bs.length then bs[i - a]? else m.read i := by
  induction bs generalizing m a with
  | nil => simp only [Memory.writeAll, List.length_nil]; grind
  | cons b rest ih =>
    simp only [Memory.writeAll, ih, Memory.read_write, List.length_cons]
    by_cases h1 : i = a
    · subst h1; simp
    · by_cases h2 : a + 1 ≤ i ∧ i < a + 1 + rest.length
      · have h3 : a ≤ i ∧ i < a + (rest.length + 1) := by omega
        have h4 : i - a = (i - (a + 1)) + 1 := by omega
        rw [if_pos h2, if_pos h3, h4, List.getElem?_cons_succ]
      · have h3 : ¬ (a ≤ i ∧ i < a + (rest.length + 1)) := by omega
        rw [if_neg h2, if_neg h1, if_neg h3]

/-- Writing consecutive bytes lists nothing outside their range but what was listed. -/
theorem Memory.mem_writeAll {m : Memory} {a : Nat} {bs : List Byte} {x : Host.Cell}
    (h : x ∈ m.writeAll a bs) : (a ≤ x.1 ∧ x.1 < a + bs.length) ∨ x ∈ m := by
  induction bs generalizing m a with
  | nil => exact .inr h
  | cons b rest ih =>
    rcases ih h with h | h
    · left; simp only [List.length_cons]; omega
    · rcases Memory.mem_write h with rfl | h
      · left; simp
      · exact .inr h

/-- Reset lists nothing. -/
theorem resetOf_bufWf (p : Params) : (State.resetOf p).buf.wf := List.Pairwise.nil

/-- A byte that was written reads as it, and draws nothing. -/
theorem State.bufByte_of_read {s : State} {i : Nat} {b : Byte} (h : s.buf.read i = some b) :
    s.bufByte i = b := by simp [State.bufByte, h]

theorem State.readBuf_of_read {s : State} {i : Nat} {b : Byte} (h : s.buf.read i = some b) :
    s.readBuf i = (b, s) := by simp [State.readBuf, State.bufByte, h]

end Sys2Proof.Machine
end

