-- ==== Sys2Proof/Laws/State.lean ====
section
/-! SUPPORT. One lemma per field per update of `State`: what each shared operation leaves in each field. -/

namespace Sys2Proof.Machine

/-! ## What a bus operation leaves in the mirrors (R34 to R36) -/

@[simp] theorem BusEntry.rxAfter_setMode (rx tx wk old : Bool) :
    (BusEntry.setMode rx tx wk).rxAfter old = rx := rfl
@[simp] theorem BusEntry.txAfter_setMode (rx tx wk old : Bool) :
    (BusEntry.setMode rx tx wk).txAfter old = tx := rfl
@[simp] theorem BusEntry.wakeAfter_setMode (rx tx wk old : Bool) :
    (BusEntry.setMode rx tx wk).wakeAfter old = wk := rfl
@[simp] theorem BusEntry.rxAfter_status (v : Half) (old : Bool) :
    (BusEntry.status v).rxAfter old = old := rfl
@[simp] theorem BusEntry.txAfter_status (v : Half) (old : Bool) :
    (BusEntry.status v).txAfter old = old := rfl
@[simp] theorem BusEntry.wakeAfter_status (v : Half) (old : Bool) :
    (BusEntry.status v).wakeAfter old = old := rfl
@[simp] theorem BusEntry.rxAfter_fifoRead (v : Byte) (old : Bool) :
    (BusEntry.fifoRead v).rxAfter old = old := rfl
@[simp] theorem BusEntry.txAfter_fifoRead (v : Byte) (old : Bool) :
    (BusEntry.fifoRead v).txAfter old = old := rfl
@[simp] theorem BusEntry.wakeAfter_fifoRead (v : Byte) (old : Bool) :
    (BusEntry.fifoRead v).wakeAfter old = old := rfl
@[simp] theorem BusEntry.rxAfter_setRssi (v : BitVec 3) (old : Bool) :
    (BusEntry.setRssi v).rxAfter old = old := rfl
@[simp] theorem BusEntry.txAfter_setRssi (v : BitVec 3) (old : Bool) :
    (BusEntry.setRssi v).txAfter old = old := rfl
@[simp] theorem BusEntry.wakeAfter_setRssi (v : BitVec 3) (old : Bool) :
    (BusEntry.setRssi v).wakeAfter old = old := rfl
@[simp] theorem BusEntry.rxAfter_txWrite (v : Byte) (old : Bool) :
    (BusEntry.txWrite v).rxAfter old = old := rfl
@[simp] theorem BusEntry.txAfter_txWrite (v : Byte) (old : Bool) :
    (BusEntry.txWrite v).txAfter old = old := rfl
@[simp] theorem BusEntry.wakeAfter_txWrite (v : Byte) (old : Bool) :
    (BusEntry.txWrite v).wakeAfter old = old := rfl
@[simp] theorem BusEntry.rxAfter_config (v : Ident) (old : Bool) :
    (BusEntry.config v).rxAfter old = old := rfl
@[simp] theorem BusEntry.txAfter_config (v : Ident) (old : Bool) :
    (BusEntry.config v).txAfter old = old := rfl
@[simp] theorem BusEntry.wakeAfter_config (v : Ident) (old : Bool) :
    (BusEntry.config v).wakeAfter old = old := rfl
@[simp] theorem BusEntry.rxAfter_devReset (old : Bool) :
    (BusEntry.devReset).rxAfter old = old := rfl
@[simp] theorem BusEntry.txAfter_devReset (old : Bool) :
    (BusEntry.devReset).txAfter old = old := rfl
@[simp] theorem BusEntry.wakeAfter_devReset (old : Bool) :
    (BusEntry.devReset).wakeAfter old = old := rfl
@[simp] theorem BusEntry.rxAfter_wakeTimer (v : Byte) (u : BitVec 5) (old : Bool) :
    (BusEntry.wakeTimer v u).rxAfter old = old := rfl
@[simp] theorem BusEntry.txAfter_wakeTimer (v : Byte) (u : BitVec 5) (old : Bool) :
    (BusEntry.wakeTimer v u).txAfter old = old := rfl
@[simp] theorem BusEntry.wakeAfter_wakeTimer (v : Byte) (u : BitVec 5) (old : Bool) :
    (BusEntry.wakeTimer v u).wakeAfter old = old := rfl

/-! ## `bus` (R66) -/

@[simp] theorem State.bus_init (s : State) (e : BusEntry) : (s.bus e).init = s.init := rfl
@[simp] theorem State.bus_ident (s : State) (e : BusEntry) : (s.bus e).ident = s.ident := rfl
@[simp] theorem State.bus_radio (s : State) (e : BusEntry) : (s.bus e).radio = s.radio := rfl
@[simp] theorem State.bus_buf (s : State) (e : BusEntry) : (s.bus e).buf = s.buf := rfl
@[simp] theorem State.bus_cursor (s : State) (e : BusEntry) : (s.bus e).cursor = s.cursor := rfl
@[simp] theorem State.bus_crc (s : State) (e : BusEntry) : (s.bus e).crc = s.crc := rfl
@[simp] theorem State.bus_crcSnap (s : State) (e : BusEntry) : (s.bus e).crcSnap = s.crcSnap := rfl
@[simp] theorem State.bus_frameReady (s : State) (e : BusEntry) :
    (s.bus e).frameReady = s.frameReady := rfl
@[simp] theorem State.bus_rssiNode (s : State) (e : BusEntry) :
    (s.bus e).rssiNode = s.rssiNode := rfl
@[simp] theorem State.bus_avail (s : State) (e : BusEntry) : (s.bus e).avail = s.avail := rfl
@[simp] theorem State.bus_acceptBroken (s : State) (e : BusEntry) :
    (s.bus e).acceptBroken = s.acceptBroken := rfl
@[simp] theorem State.bus_rxOn (s : State) (e : BusEntry) : (s.bus e).rxOn = e.rxAfter s.rxOn := rfl
@[simp] theorem State.bus_txOn (s : State) (e : BusEntry) : (s.bus e).txOn = e.txAfter s.txOn := rfl
@[simp] theorem State.bus_wakeEn (s : State) (e : BusEntry) :
    (s.bus e).wakeEn = e.wakeAfter s.wakeEn := rfl
@[simp] theorem State.bus_wakeM (s : State) (e : BusEntry) : (s.bus e).wakeM = s.wakeM := rfl
@[simp] theorem State.bus_wakeE (s : State) (e : BusEntry) : (s.bus e).wakeE = s.wakeE := rfl
@[simp] theorem State.bus_woke (s : State) (e : BusEntry) : (s.bus e).woke = s.woke := rfl
@[simp] theorem State.bus_busLog (s : State) (e : BusEntry) :
    (s.bus e).busLog = s.busLog ++ [e] := rfl
@[simp] theorem State.bus_faultMark (s : State) (e : BusEntry) :
    (s.bus e).faultMark = s.faultMark := rfl
@[simp] theorem State.bus_refusedMark (s : State) (e : BusEntry) :
    (s.bus e).refusedMark = s.refusedMark := rfl
@[simp] theorem State.bus_cfg (s : State) (e : BusEntry) : (s.bus e).cfg = s.cfg := rfl
@[simp] theorem State.bus_inputs (s : State) (e : BusEntry) : (s.bus e).inputs = s.inputs := rfl
@[simp] theorem State.bus_results (s : State) (e : BusEntry) : (s.bus e).results = s.results := rfl
@[simp] theorem State.bus_draws (s : State) (e : BusEntry) : (s.bus e).draws = s.draws := rfl

/-! ## `readBuf` (R26) -/

@[simp] theorem State.readBuf_init (s : State) (i : Nat) : (s.readBuf i).2.init = s.init := rfl
@[simp] theorem State.readBuf_ident (s : State) (i : Nat) : (s.readBuf i).2.ident = s.ident := rfl
@[simp] theorem State.readBuf_radio (s : State) (i : Nat) : (s.readBuf i).2.radio = s.radio := rfl
@[simp] theorem State.readBuf_buf (s : State) (i : Nat) : (s.readBuf i).2.buf = s.buf := rfl
@[simp] theorem State.readBuf_cursor (s : State) (i : Nat) :
    (s.readBuf i).2.cursor = s.cursor := rfl
@[simp] theorem State.readBuf_crc (s : State) (i : Nat) : (s.readBuf i).2.crc = s.crc := rfl
@[simp] theorem State.readBuf_crcSnap (s : State) (i : Nat) :
    (s.readBuf i).2.crcSnap = s.crcSnap := rfl
@[simp] theorem State.readBuf_frameReady (s : State) (i : Nat) :
    (s.readBuf i).2.frameReady = s.frameReady := rfl
@[simp] theorem State.readBuf_rssiNode (s : State) (i : Nat) :
    (s.readBuf i).2.rssiNode = s.rssiNode := rfl
@[simp] theorem State.readBuf_avail (s : State) (i : Nat) : (s.readBuf i).2.avail = s.avail := rfl
@[simp] theorem State.readBuf_acceptBroken (s : State) (i : Nat) :
    (s.readBuf i).2.acceptBroken = s.acceptBroken := rfl
@[simp] theorem State.readBuf_rxOn (s : State) (i : Nat) : (s.readBuf i).2.rxOn = s.rxOn := rfl
@[simp] theorem State.readBuf_txOn (s : State) (i : Nat) : (s.readBuf i).2.txOn = s.txOn := rfl
@[simp] theorem State.readBuf_wakeEn (s : State) (i : Nat) :
    (s.readBuf i).2.wakeEn = s.wakeEn := rfl
@[simp] theorem State.readBuf_wakeM (s : State) (i : Nat) : (s.readBuf i).2.wakeM = s.wakeM := rfl
@[simp] theorem State.readBuf_wakeE (s : State) (i : Nat) : (s.readBuf i).2.wakeE = s.wakeE := rfl
@[simp] theorem State.readBuf_woke (s : State) (i : Nat) : (s.readBuf i).2.woke = s.woke := rfl
@[simp] theorem State.readBuf_busLog (s : State) (i : Nat) :
    (s.readBuf i).2.busLog = s.busLog := rfl
@[simp] theorem State.readBuf_faultMark (s : State) (i : Nat) :
    (s.readBuf i).2.faultMark = s.faultMark := rfl
@[simp] theorem State.readBuf_refusedMark (s : State) (i : Nat) :
    (s.readBuf i).2.refusedMark = s.refusedMark := rfl
@[simp] theorem State.readBuf_cfg (s : State) (i : Nat) : (s.readBuf i).2.cfg = s.cfg := rfl
@[simp] theorem State.readBuf_inputs (s : State) (i : Nat) :
    (s.readBuf i).2.inputs = s.inputs := rfl
@[simp] theorem State.readBuf_results (s : State) (i : Nat) :
    (s.readBuf i).2.results = s.results := rfl
@[simp] theorem State.readBuf_draws (s : State) (i : Nat) :
    (s.readBuf i).2.draws = if (s.buf.read i).isSome then s.draws else s.draws + 1 := rfl
@[simp] theorem State.readBuf_byte (s : State) (i : Nat) : (s.readBuf i).1 = s.bufByte i := rfl

/-! ## `writeBuf` (R17) -/

@[simp] theorem State.writeBuf_init (s : State) (i : Nat) (b : Byte) :
    (s.writeBuf i b).init = s.init := rfl
@[simp] theorem State.writeBuf_ident (s : State) (i : Nat) (b : Byte) :
    (s.writeBuf i b).ident = s.ident := rfl
@[simp] theorem State.writeBuf_radio (s : State) (i : Nat) (b : Byte) :
    (s.writeBuf i b).radio = s.radio := rfl
@[simp] theorem State.writeBuf_buf (s : State) (i : Nat) (b : Byte) :
    (s.writeBuf i b).buf = s.buf.write i b := rfl
@[simp] theorem State.writeBuf_cursor (s : State) (i : Nat) (b : Byte) :
    (s.writeBuf i b).cursor = s.cursor := rfl
@[simp] theorem State.writeBuf_crc (s : State) (i : Nat) (b : Byte) :
    (s.writeBuf i b).crc = s.crc := rfl
@[simp] theorem State.writeBuf_crcSnap (s : State) (i : Nat) (b : Byte) :
    (s.writeBuf i b).crcSnap = s.crcSnap := rfl
@[simp] theorem State.writeBuf_frameReady (s : State) (i : Nat) (b : Byte) :
    (s.writeBuf i b).frameReady = s.frameReady := rfl
@[simp] theorem State.writeBuf_rssiNode (s : State) (i : Nat) (b : Byte) :
    (s.writeBuf i b).rssiNode = s.rssiNode := rfl
@[simp] theorem State.writeBuf_avail (s : State) (i : Nat) (b : Byte) :
    (s.writeBuf i b).avail = s.avail := rfl
@[simp] theorem State.writeBuf_acceptBroken (s : State) (i : Nat) (b : Byte) :
    (s.writeBuf i b).acceptBroken = s.acceptBroken := rfl
@[simp] theorem State.writeBuf_rxOn (s : State) (i : Nat) (b : Byte) :
    (s.writeBuf i b).rxOn = s.rxOn := rfl
@[simp] theorem State.writeBuf_txOn (s : State) (i : Nat) (b : Byte) :
    (s.writeBuf i b).txOn = s.txOn := rfl
@[simp] theorem State.writeBuf_wakeEn (s : State) (i : Nat) (b : Byte) :
    (s.writeBuf i b).wakeEn = s.wakeEn := rfl
@[simp] theorem State.writeBuf_wakeM (s : State) (i : Nat) (b : Byte) :
    (s.writeBuf i b).wakeM = s.wakeM := rfl
@[simp] theorem State.writeBuf_wakeE (s : State) (i : Nat) (b : Byte) :
    (s.writeBuf i b).wakeE = s.wakeE := rfl
@[simp] theorem State.writeBuf_woke (s : State) (i : Nat) (b : Byte) :
    (s.writeBuf i b).woke = s.woke := rfl
@[simp] theorem State.writeBuf_busLog (s : State) (i : Nat) (b : Byte) :
    (s.writeBuf i b).busLog = s.busLog := rfl
@[simp] theorem State.writeBuf_faultMark (s : State) (i : Nat) (b : Byte) :
    (s.writeBuf i b).faultMark = s.faultMark := rfl
@[simp] theorem State.writeBuf_refusedMark (s : State) (i : Nat) (b : Byte) :
    (s.writeBuf i b).refusedMark = s.refusedMark := rfl
@[simp] theorem State.writeBuf_cfg (s : State) (i : Nat) (b : Byte) :
    (s.writeBuf i b).cfg = s.cfg := rfl
@[simp] theorem State.writeBuf_inputs (s : State) (i : Nat) (b : Byte) :
    (s.writeBuf i b).inputs = s.inputs := rfl
@[simp] theorem State.writeBuf_results (s : State) (i : Nat) (b : Byte) :
    (s.writeBuf i b).results = s.results := rfl
@[simp] theorem State.writeBuf_draws (s : State) (i : Nat) (b : Byte) :
    (s.writeBuf i b).draws = s.draws := rfl

/-! ## `armReceive` (R132) -/

@[simp] theorem State.armReceive_init (s : State) : s.armReceive.init = s.init := rfl
@[simp] theorem State.armReceive_ident (s : State) : s.armReceive.ident = s.ident := rfl
@[simp] theorem State.armReceive_radio (s : State) : s.armReceive.radio = .receiving := rfl
@[simp] theorem State.armReceive_buf (s : State) : s.armReceive.buf = s.buf := rfl
@[simp] theorem State.armReceive_cursor (s : State) : s.armReceive.cursor = 0 := rfl
@[simp] theorem State.armReceive_crc (s : State) :
    s.armReceive.crc = crc16Update crcSeed s.ident.groupId := rfl
@[simp] theorem State.armReceive_crcSnap (s : State) : s.armReceive.crcSnap = s.crcSnap := rfl
@[simp] theorem State.armReceive_frameReady (s : State) :
    s.armReceive.frameReady = s.frameReady := rfl
@[simp] theorem State.armReceive_rssiNode (s : State) : s.armReceive.rssiNode = .node 3 := rfl
@[simp] theorem State.armReceive_avail (s : State) : s.armReceive.avail = s.avail := rfl
@[simp] theorem State.armReceive_acceptBroken (s : State) :
    s.armReceive.acceptBroken = s.acceptBroken := rfl
@[simp] theorem State.armReceive_rxOn (s : State) : s.armReceive.rxOn = true := rfl
@[simp] theorem State.armReceive_txOn (s : State) : s.armReceive.txOn = false := rfl
@[simp] theorem State.armReceive_wakeEn (s : State) : s.armReceive.wakeEn = s.wakeEn := rfl
@[simp] theorem State.armReceive_wakeM (s : State) : s.armReceive.wakeM = s.wakeM := rfl
@[simp] theorem State.armReceive_wakeE (s : State) : s.armReceive.wakeE = s.wakeE := rfl
@[simp] theorem State.armReceive_woke (s : State) : s.armReceive.woke = s.woke := rfl
@[simp] theorem State.armReceive_busLog (s : State) :
    s.armReceive.busLog = s.busLog ++ [.setRssi s.cfg.rssiCode[3]] ++ [.setMode true false s.wakeEn] := rfl
@[simp] theorem State.armReceive_faultMark (s : State) : s.armReceive.faultMark = s.faultMark := rfl
@[simp] theorem State.armReceive_refusedMark (s : State) :
    s.armReceive.refusedMark = s.refusedMark := rfl
@[simp] theorem State.armReceive_cfg (s : State) : s.armReceive.cfg = s.cfg := rfl
@[simp] theorem State.armReceive_inputs (s : State) : s.armReceive.inputs = s.inputs := rfl
@[simp] theorem State.armReceive_results (s : State) : s.armReceive.results = s.results := rfl
@[simp] theorem State.armReceive_draws (s : State) : s.armReceive.draws = s.draws := rfl

/-! ## `emit`, `txSync2Step`, `txDoneStep` (R190 to R198) -/

@[simp] theorem State.emit_init (s : State) (b : Byte) (r : RadioState) :
    (s.emit b r).init = s.init := rfl
@[simp] theorem State.emit_ident (s : State) (b : Byte) (r : RadioState) :
    (s.emit b r).ident = s.ident := rfl
@[simp] theorem State.emit_radio (s : State) (b : Byte) (r : RadioState) :
    (s.emit b r).radio = r := rfl
@[simp] theorem State.emit_buf (s : State) (b : Byte) (r : RadioState) :
    (s.emit b r).buf = s.buf := rfl
@[simp] theorem State.emit_cursor (s : State) (b : Byte) (r : RadioState) :
    (s.emit b r).cursor = s.cursor := rfl
@[simp] theorem State.emit_crc (s : State) (b : Byte) (r : RadioState) :
    (s.emit b r).crc = s.crc := rfl
@[simp] theorem State.emit_crcSnap (s : State) (b : Byte) (r : RadioState) :
    (s.emit b r).crcSnap = s.crcSnap := rfl
@[simp] theorem State.emit_frameReady (s : State) (b : Byte) (r : RadioState) :
    (s.emit b r).frameReady = s.frameReady := rfl
@[simp] theorem State.emit_rssiNode (s : State) (b : Byte) (r : RadioState) :
    (s.emit b r).rssiNode = s.rssiNode := rfl
@[simp] theorem State.emit_avail (s : State) (b : Byte) (r : RadioState) :
    (s.emit b r).avail = s.avail := rfl
@[simp] theorem State.emit_acceptBroken (s : State) (b : Byte) (r : RadioState) :
    (s.emit b r).acceptBroken = s.acceptBroken := rfl
@[simp] theorem State.emit_rxOn (s : State) (b : Byte) (r : RadioState) :
    (s.emit b r).rxOn = s.rxOn := rfl
@[simp] theorem State.emit_txOn (s : State) (b : Byte) (r : RadioState) :
    (s.emit b r).txOn = s.txOn := rfl
@[simp] theorem State.emit_wakeEn (s : State) (b : Byte) (r : RadioState) :
    (s.emit b r).wakeEn = s.wakeEn := rfl
@[simp] theorem State.emit_wakeM (s : State) (b : Byte) (r : RadioState) :
    (s.emit b r).wakeM = s.wakeM := rfl
@[simp] theorem State.emit_wakeE (s : State) (b : Byte) (r : RadioState) :
    (s.emit b r).wakeE = s.wakeE := rfl
@[simp] theorem State.emit_woke (s : State) (b : Byte) (r : RadioState) :
    (s.emit b r).woke = s.woke := rfl
@[simp] theorem State.emit_busLog (s : State) (b : Byte) (r : RadioState) :
    (s.emit b r).busLog = s.busLog ++ [.txWrite b] := rfl
@[simp] theorem State.emit_faultMark (s : State) (b : Byte) (r : RadioState) :
    (s.emit b r).faultMark = s.faultMark := rfl
@[simp] theorem State.emit_refusedMark (s : State) (b : Byte) (r : RadioState) :
    (s.emit b r).refusedMark = s.refusedMark := rfl
@[simp] theorem State.emit_cfg (s : State) (b : Byte) (r : RadioState) :
    (s.emit b r).cfg = s.cfg := rfl
@[simp] theorem State.emit_inputs (s : State) (b : Byte) (r : RadioState) :
    (s.emit b r).inputs = s.inputs := rfl
@[simp] theorem State.emit_results (s : State) (b : Byte) (r : RadioState) :
    (s.emit b r).results = s.results := rfl
@[simp] theorem State.emit_draws (s : State) (b : Byte) (r : RadioState) :
    (s.emit b r).draws = s.draws := rfl
@[simp] theorem State.txSync2Step_init (s : State) : s.txSync2Step.init = s.init := rfl
@[simp] theorem State.txSync2Step_ident (s : State) : s.txSync2Step.ident = s.ident := rfl
@[simp] theorem State.txSync2Step_radio (s : State) :
    s.txSync2Step.radio = .txPayload (txStart (s.bufByte 1)) := rfl
@[simp] theorem State.txSync2Step_buf (s : State) : s.txSync2Step.buf = s.buf := rfl
@[simp] theorem State.txSync2Step_cursor (s : State) : s.txSync2Step.cursor = s.cursor := rfl
@[simp] theorem State.txSync2Step_crc (s : State) :
    s.txSync2Step.crc = crc16Update crcSeed s.ident.groupId := rfl
@[simp] theorem State.txSync2Step_crcSnap (s : State) : s.txSync2Step.crcSnap = s.crcSnap := rfl
@[simp] theorem State.txSync2Step_frameReady (s : State) :
    s.txSync2Step.frameReady = s.frameReady := rfl
@[simp] theorem State.txSync2Step_rssiNode (s : State) : s.txSync2Step.rssiNode = s.rssiNode := rfl
@[simp] theorem State.txSync2Step_avail (s : State) : s.txSync2Step.avail = s.avail := rfl
@[simp] theorem State.txSync2Step_acceptBroken (s : State) :
    s.txSync2Step.acceptBroken = s.acceptBroken := rfl
@[simp] theorem State.txSync2Step_rxOn (s : State) : s.txSync2Step.rxOn = s.rxOn := rfl
@[simp] theorem State.txSync2Step_txOn (s : State) : s.txSync2Step.txOn = s.txOn := rfl
@[simp] theorem State.txSync2Step_wakeEn (s : State) : s.txSync2Step.wakeEn = s.wakeEn := rfl
@[simp] theorem State.txSync2Step_wakeM (s : State) : s.txSync2Step.wakeM = s.wakeM := rfl
@[simp] theorem State.txSync2Step_wakeE (s : State) : s.txSync2Step.wakeE = s.wakeE := rfl
@[simp] theorem State.txSync2Step_woke (s : State) : s.txSync2Step.woke = s.woke := rfl
@[simp] theorem State.txSync2Step_busLog (s : State) :
    s.txSync2Step.busLog = s.busLog ++ [.txWrite s.ident.groupId] := rfl
@[simp] theorem State.txSync2Step_faultMark (s : State) :
    s.txSync2Step.faultMark = s.faultMark := rfl
@[simp] theorem State.txSync2Step_refusedMark (s : State) :
    s.txSync2Step.refusedMark = s.refusedMark := rfl
@[simp] theorem State.txSync2Step_cfg (s : State) : s.txSync2Step.cfg = s.cfg := rfl
@[simp] theorem State.txSync2Step_inputs (s : State) : s.txSync2Step.inputs = s.inputs := rfl
@[simp] theorem State.txSync2Step_results (s : State) : s.txSync2Step.results = s.results := rfl
@[simp] theorem State.txSync2Step_draws (s : State) :
    s.txSync2Step.draws = if (s.buf.read 1).isSome then s.draws else s.draws + 1 := rfl
@[simp] theorem State.txDoneStep_init (s : State) : s.txDoneStep.init = s.init := rfl
@[simp] theorem State.txDoneStep_ident (s : State) : s.txDoneStep.ident = s.ident := rfl
@[simp] theorem State.txDoneStep_radio (s : State) : s.txDoneStep.radio = .idle := rfl
@[simp] theorem State.txDoneStep_buf (s : State) : s.txDoneStep.buf = s.buf := rfl
@[simp] theorem State.txDoneStep_cursor (s : State) : s.txDoneStep.cursor = s.cursor := rfl
@[simp] theorem State.txDoneStep_crc (s : State) : s.txDoneStep.crc = s.crc := rfl
@[simp] theorem State.txDoneStep_crcSnap (s : State) : s.txDoneStep.crcSnap = s.crcSnap := rfl
@[simp] theorem State.txDoneStep_frameReady (s : State) :
    s.txDoneStep.frameReady = s.frameReady := rfl
@[simp] theorem State.txDoneStep_rssiNode (s : State) : s.txDoneStep.rssiNode = s.rssiNode := rfl
@[simp] theorem State.txDoneStep_avail (s : State) : s.txDoneStep.avail = s.avail := rfl
@[simp] theorem State.txDoneStep_acceptBroken (s : State) :
    s.txDoneStep.acceptBroken = s.acceptBroken := rfl
@[simp] theorem State.txDoneStep_rxOn (s : State) : s.txDoneStep.rxOn = false := rfl
@[simp] theorem State.txDoneStep_txOn (s : State) : s.txDoneStep.txOn = false := rfl
@[simp] theorem State.txDoneStep_wakeEn (s : State) : s.txDoneStep.wakeEn = s.wakeEn := rfl
@[simp] theorem State.txDoneStep_wakeM (s : State) : s.txDoneStep.wakeM = s.wakeM := rfl
@[simp] theorem State.txDoneStep_wakeE (s : State) : s.txDoneStep.wakeE = s.wakeE := rfl
@[simp] theorem State.txDoneStep_woke (s : State) : s.txDoneStep.woke = s.woke := rfl
@[simp] theorem State.txDoneStep_busLog (s : State) :
    s.txDoneStep.busLog = s.busLog ++ [.setMode false false s.wakeEn] := rfl
@[simp] theorem State.txDoneStep_faultMark (s : State) : s.txDoneStep.faultMark = s.faultMark := rfl
@[simp] theorem State.txDoneStep_refusedMark (s : State) :
    s.txDoneStep.refusedMark = s.refusedMark := rfl
@[simp] theorem State.txDoneStep_cfg (s : State) : s.txDoneStep.cfg = s.cfg := rfl
@[simp] theorem State.txDoneStep_inputs (s : State) : s.txDoneStep.inputs = s.inputs := rfl
@[simp] theorem State.txDoneStep_results (s : State) : s.txDoneStep.results = s.results := rfl
@[simp] theorem State.txDoneStep_draws (s : State) : s.txDoneStep.draws = s.draws := rfl

/-! ## `finishFrame`, `storeByte` (R187) -/

@[simp] theorem State.finishFrame_init (s : State) : s.finishFrame.init = s.init := rfl
@[simp] theorem State.finishFrame_ident (s : State) : s.finishFrame.ident = s.ident := rfl
@[simp] theorem State.finishFrame_radio (s : State) : s.finishFrame.radio = s.radio := rfl
@[simp] theorem State.finishFrame_buf (s : State) : s.finishFrame.buf = s.buf := rfl
@[simp] theorem State.finishFrame_cursor (s : State) : s.finishFrame.cursor = s.cursor := rfl
@[simp] theorem State.finishFrame_crc (s : State) : s.finishFrame.crc = s.crc := rfl
@[simp] theorem State.finishFrame_crcSnap (s : State) : s.finishFrame.crcSnap = s.crc := rfl
@[simp] theorem State.finishFrame_frameReady (s : State) : s.finishFrame.frameReady = true := rfl
@[simp] theorem State.finishFrame_rssiNode (s : State) : s.finishFrame.rssiNode = s.rssiNode := rfl
@[simp] theorem State.finishFrame_avail (s : State) : s.finishFrame.avail = s.avail := rfl
@[simp] theorem State.finishFrame_acceptBroken (s : State) :
    s.finishFrame.acceptBroken = s.acceptBroken := rfl
@[simp] theorem State.finishFrame_rxOn (s : State) : s.finishFrame.rxOn = false := rfl
@[simp] theorem State.finishFrame_txOn (s : State) : s.finishFrame.txOn = false := rfl
@[simp] theorem State.finishFrame_wakeEn (s : State) : s.finishFrame.wakeEn = s.wakeEn := rfl
@[simp] theorem State.finishFrame_wakeM (s : State) : s.finishFrame.wakeM = s.wakeM := rfl
@[simp] theorem State.finishFrame_wakeE (s : State) : s.finishFrame.wakeE = s.wakeE := rfl
@[simp] theorem State.finishFrame_woke (s : State) : s.finishFrame.woke = s.woke := rfl
@[simp] theorem State.finishFrame_busLog (s : State) :
    s.finishFrame.busLog = s.busLog ++ [.setMode false false s.wakeEn] := rfl
@[simp] theorem State.finishFrame_faultMark (s : State) :
    s.finishFrame.faultMark = s.faultMark := rfl
@[simp] theorem State.finishFrame_refusedMark (s : State) :
    s.finishFrame.refusedMark = s.refusedMark := rfl
@[simp] theorem State.finishFrame_cfg (s : State) : s.finishFrame.cfg = s.cfg := rfl
@[simp] theorem State.finishFrame_inputs (s : State) : s.finishFrame.inputs = s.inputs := rfl
@[simp] theorem State.finishFrame_results (s : State) : s.finishFrame.results = s.results := rfl
@[simp] theorem State.finishFrame_draws (s : State) : s.finishFrame.draws = s.draws := rfl
@[simp] theorem State.storeByte_init (s : State) (b : Byte) : (s.storeByte b).init = s.init := rfl
@[simp] theorem State.storeByte_ident (s : State) (b : Byte) :
    (s.storeByte b).ident = s.ident := rfl
@[simp] theorem State.storeByte_radio (s : State) (b : Byte) :
    (s.storeByte b).radio = s.radio := rfl
@[simp] theorem State.storeByte_buf (s : State) (b : Byte) :
    (s.storeByte b).buf = s.buf.write s.cursor.toNat b := rfl
@[simp] theorem State.storeByte_cursor (s : State) (b : Byte) :
    (s.storeByte b).cursor = s.cursor + 1 := rfl
@[simp] theorem State.storeByte_crc (s : State) (b : Byte) :
    (s.storeByte b).crc = crc16Update s.crc b := rfl
@[simp] theorem State.storeByte_crcSnap (s : State) (b : Byte) :
    (s.storeByte b).crcSnap = s.crcSnap := rfl
@[simp] theorem State.storeByte_frameReady (s : State) (b : Byte) :
    (s.storeByte b).frameReady = s.frameReady := rfl
@[simp] theorem State.storeByte_rssiNode (s : State) (b : Byte) :
    (s.storeByte b).rssiNode = s.rssiNode := rfl
@[simp] theorem State.storeByte_avail (s : State) (b : Byte) :
    (s.storeByte b).avail = s.avail := rfl
@[simp] theorem State.storeByte_acceptBroken (s : State) (b : Byte) :
    (s.storeByte b).acceptBroken = s.acceptBroken := rfl
@[simp] theorem State.storeByte_rxOn (s : State) (b : Byte) : (s.storeByte b).rxOn = s.rxOn := rfl
@[simp] theorem State.storeByte_txOn (s : State) (b : Byte) : (s.storeByte b).txOn = s.txOn := rfl
@[simp] theorem State.storeByte_wakeEn (s : State) (b : Byte) :
    (s.storeByte b).wakeEn = s.wakeEn := rfl
@[simp] theorem State.storeByte_wakeM (s : State) (b : Byte) :
    (s.storeByte b).wakeM = s.wakeM := rfl
@[simp] theorem State.storeByte_wakeE (s : State) (b : Byte) :
    (s.storeByte b).wakeE = s.wakeE := rfl
@[simp] theorem State.storeByte_woke (s : State) (b : Byte) : (s.storeByte b).woke = s.woke := rfl
@[simp] theorem State.storeByte_busLog (s : State) (b : Byte) :
    (s.storeByte b).busLog = s.busLog := rfl
@[simp] theorem State.storeByte_faultMark (s : State) (b : Byte) :
    (s.storeByte b).faultMark = s.faultMark := rfl
@[simp] theorem State.storeByte_refusedMark (s : State) (b : Byte) :
    (s.storeByte b).refusedMark = s.refusedMark := rfl
@[simp] theorem State.storeByte_cfg (s : State) (b : Byte) : (s.storeByte b).cfg = s.cfg := rfl
@[simp] theorem State.storeByte_inputs (s : State) (b : Byte) :
    (s.storeByte b).inputs = s.inputs := rfl
@[simp] theorem State.storeByte_results (s : State) (b : Byte) :
    (s.storeByte b).results = s.results := rfl
@[simp] theorem State.storeByte_draws (s : State) (b : Byte) :
    (s.storeByte b).draws = s.draws := rfl

/-! ## `accept`, `frameComplete`: only `draws` may change (R133, R188) -/

@[simp] theorem State.accept_init (s : State) : s.accept.2.init = s.init := rfl
@[simp] theorem State.accept_ident (s : State) : s.accept.2.ident = s.ident := rfl
@[simp] theorem State.accept_radio (s : State) : s.accept.2.radio = s.radio := rfl
@[simp] theorem State.accept_buf (s : State) : s.accept.2.buf = s.buf := rfl
@[simp] theorem State.accept_cursor (s : State) : s.accept.2.cursor = s.cursor := rfl
@[simp] theorem State.accept_crc (s : State) : s.accept.2.crc = s.crc := rfl
@[simp] theorem State.accept_crcSnap (s : State) : s.accept.2.crcSnap = s.crcSnap := rfl
@[simp] theorem State.accept_frameReady (s : State) : s.accept.2.frameReady = s.frameReady := rfl
@[simp] theorem State.accept_rssiNode (s : State) : s.accept.2.rssiNode = s.rssiNode := rfl
@[simp] theorem State.accept_avail (s : State) : s.accept.2.avail = s.avail := rfl
@[simp] theorem State.accept_acceptBroken (s : State) :
    s.accept.2.acceptBroken = s.acceptBroken := rfl
@[simp] theorem State.accept_rxOn (s : State) : s.accept.2.rxOn = s.rxOn := rfl
@[simp] theorem State.accept_txOn (s : State) : s.accept.2.txOn = s.txOn := rfl
@[simp] theorem State.accept_wakeEn (s : State) : s.accept.2.wakeEn = s.wakeEn := rfl
@[simp] theorem State.accept_wakeM (s : State) : s.accept.2.wakeM = s.wakeM := rfl
@[simp] theorem State.accept_wakeE (s : State) : s.accept.2.wakeE = s.wakeE := rfl
@[simp] theorem State.accept_woke (s : State) : s.accept.2.woke = s.woke := rfl
@[simp] theorem State.accept_busLog (s : State) : s.accept.2.busLog = s.busLog := rfl
@[simp] theorem State.accept_faultMark (s : State) : s.accept.2.faultMark = s.faultMark := rfl
@[simp] theorem State.accept_refusedMark (s : State) : s.accept.2.refusedMark = s.refusedMark := rfl
@[simp] theorem State.accept_cfg (s : State) : s.accept.2.cfg = s.cfg := rfl
@[simp] theorem State.accept_inputs (s : State) : s.accept.2.inputs = s.inputs := rfl
@[simp] theorem State.accept_results (s : State) : s.accept.2.results = s.results := rfl
@[simp] theorem State.frameComplete_init (s : State) :
    s.frameComplete.2.init = s.init := by unfold State.frameComplete; split <;> rfl
@[simp] theorem State.frameComplete_ident (s : State) :
    s.frameComplete.2.ident = s.ident := by unfold State.frameComplete; split <;> rfl
@[simp] theorem State.frameComplete_radio (s : State) :
    s.frameComplete.2.radio = s.radio := by unfold State.frameComplete; split <;> rfl
@[simp] theorem State.frameComplete_buf (s : State) :
    s.frameComplete.2.buf = s.buf := by unfold State.frameComplete; split <;> rfl
@[simp] theorem State.frameComplete_cursor (s : State) :
    s.frameComplete.2.cursor = s.cursor := by unfold State.frameComplete; split <;> rfl
@[simp] theorem State.frameComplete_crc (s : State) :
    s.frameComplete.2.crc = s.crc := by unfold State.frameComplete; split <;> rfl
@[simp] theorem State.frameComplete_crcSnap (s : State) :
    s.frameComplete.2.crcSnap = s.crcSnap := by unfold State.frameComplete; split <;> rfl
@[simp] theorem State.frameComplete_frameReady (s : State) :
    s.frameComplete.2.frameReady = s.frameReady := by unfold State.frameComplete; split <;> rfl
@[simp] theorem State.frameComplete_rssiNode (s : State) :
    s.frameComplete.2.rssiNode = s.rssiNode := by unfold State.frameComplete; split <;> rfl
@[simp] theorem State.frameComplete_avail (s : State) :
    s.frameComplete.2.avail = s.avail := by unfold State.frameComplete; split <;> rfl
@[simp] theorem State.frameComplete_acceptBroken (s : State) :
    s.frameComplete.2.acceptBroken = s.acceptBroken := by unfold State.frameComplete; split <;> rfl
@[simp] theorem State.frameComplete_rxOn (s : State) :
    s.frameComplete.2.rxOn = s.rxOn := by unfold State.frameComplete; split <;> rfl
@[simp] theorem State.frameComplete_txOn (s : State) :
    s.frameComplete.2.txOn = s.txOn := by unfold State.frameComplete; split <;> rfl
@[simp] theorem State.frameComplete_wakeEn (s : State) :
    s.frameComplete.2.wakeEn = s.wakeEn := by unfold State.frameComplete; split <;> rfl
@[simp] theorem State.frameComplete_wakeM (s : State) :
    s.frameComplete.2.wakeM = s.wakeM := by unfold State.frameComplete; split <;> rfl
@[simp] theorem State.frameComplete_wakeE (s : State) :
    s.frameComplete.2.wakeE = s.wakeE := by unfold State.frameComplete; split <;> rfl
@[simp] theorem State.frameComplete_woke (s : State) :
    s.frameComplete.2.woke = s.woke := by unfold State.frameComplete; split <;> rfl
@[simp] theorem State.frameComplete_busLog (s : State) :
    s.frameComplete.2.busLog = s.busLog := by unfold State.frameComplete; split <;> rfl
@[simp] theorem State.frameComplete_faultMark (s : State) :
    s.frameComplete.2.faultMark = s.faultMark := by unfold State.frameComplete; split <;> rfl
@[simp] theorem State.frameComplete_refusedMark (s : State) :
    s.frameComplete.2.refusedMark = s.refusedMark := by unfold State.frameComplete; split <;> rfl
@[simp] theorem State.frameComplete_cfg (s : State) :
    s.frameComplete.2.cfg = s.cfg := by unfold State.frameComplete; split <;> rfl
@[simp] theorem State.frameComplete_inputs (s : State) :
    s.frameComplete.2.inputs = s.inputs := by unfold State.frameComplete; split <;> rfl
@[simp] theorem State.frameComplete_results (s : State) :
    s.frameComplete.2.results = s.results := by unfold State.frameComplete; split <;> rfl

/-! ## `rssiStep` (R253) -/

@[simp] theorem State.rssiStep_init (s : State) (a : Bool) :
    (s.rssiStep a).init = s.init := by unfold State.rssiStep; repeat (first | rfl | split)
@[simp] theorem State.rssiStep_ident (s : State) (a : Bool) :
    (s.rssiStep a).ident = s.ident := by unfold State.rssiStep; repeat (first | rfl | split)
@[simp] theorem State.rssiStep_radio (s : State) (a : Bool) :
    (s.rssiStep a).radio = s.radio := by unfold State.rssiStep; repeat (first | rfl | split)
@[simp] theorem State.rssiStep_buf (s : State) (a : Bool) :
    (s.rssiStep a).buf = s.buf := by unfold State.rssiStep; repeat (first | rfl | split)
@[simp] theorem State.rssiStep_cursor (s : State) (a : Bool) :
    (s.rssiStep a).cursor = s.cursor := by unfold State.rssiStep; repeat (first | rfl | split)
@[simp] theorem State.rssiStep_crc (s : State) (a : Bool) :
    (s.rssiStep a).crc = s.crc := by unfold State.rssiStep; repeat (first | rfl | split)
@[simp] theorem State.rssiStep_crcSnap (s : State) (a : Bool) :
    (s.rssiStep a).crcSnap = s.crcSnap := by unfold State.rssiStep; repeat (first | rfl | split)
@[simp] theorem State.rssiStep_frameReady (s : State) (a : Bool) :
    (s.rssiStep a).frameReady = s.frameReady := by unfold State.rssiStep; repeat (first | rfl | split)
@[simp] theorem State.rssiStep_avail (s : State) (a : Bool) :
    (s.rssiStep a).avail = s.avail := by unfold State.rssiStep; repeat (first | rfl | split)
@[simp] theorem State.rssiStep_acceptBroken (s : State) (a : Bool) :
    (s.rssiStep a).acceptBroken = s.acceptBroken := by unfold State.rssiStep; repeat (first | rfl | split)
@[simp] theorem State.rssiStep_rxOn (s : State) (a : Bool) :
    (s.rssiStep a).rxOn = s.rxOn := by unfold State.rssiStep; repeat (first | rfl | split)
@[simp] theorem State.rssiStep_txOn (s : State) (a : Bool) :
    (s.rssiStep a).txOn = s.txOn := by unfold State.rssiStep; repeat (first | rfl | split)
@[simp] theorem State.rssiStep_wakeEn (s : State) (a : Bool) :
    (s.rssiStep a).wakeEn = s.wakeEn := by unfold State.rssiStep; repeat (first | rfl | split)
@[simp] theorem State.rssiStep_wakeM (s : State) (a : Bool) :
    (s.rssiStep a).wakeM = s.wakeM := by unfold State.rssiStep; repeat (first | rfl | split)
@[simp] theorem State.rssiStep_wakeE (s : State) (a : Bool) :
    (s.rssiStep a).wakeE = s.wakeE := by unfold State.rssiStep; repeat (first | rfl | split)
@[simp] theorem State.rssiStep_woke (s : State) (a : Bool) :
    (s.rssiStep a).woke = s.woke := by unfold State.rssiStep; repeat (first | rfl | split)
@[simp] theorem State.rssiStep_faultMark (s : State) (a : Bool) :
    (s.rssiStep a).faultMark = s.faultMark := by unfold State.rssiStep; repeat (first | rfl | split)
@[simp] theorem State.rssiStep_refusedMark (s : State) (a : Bool) :
    (s.rssiStep a).refusedMark = s.refusedMark := by unfold State.rssiStep; repeat (first | rfl | split)
@[simp] theorem State.rssiStep_cfg (s : State) (a : Bool) :
    (s.rssiStep a).cfg = s.cfg := by unfold State.rssiStep; repeat (first | rfl | split)
@[simp] theorem State.rssiStep_inputs (s : State) (a : Bool) :
    (s.rssiStep a).inputs = s.inputs := by unfold State.rssiStep; repeat (first | rfl | split)
@[simp] theorem State.rssiStep_results (s : State) (a : Bool) :
    (s.rssiStep a).results = s.results := by unfold State.rssiStep; repeat (first | rfl | split)
@[simp] theorem State.rssiStep_draws (s : State) (a : Bool) :
    (s.rssiStep a).draws = s.draws := by unfold State.rssiStep; repeat (first | rfl | split)

/-! ## `readStatus` (R181) -/

@[simp] theorem State.readStatus_init (s : State) (w : Half) (b : Byte) :
    (s.readStatus w b).init = s.init := by unfold State.readStatus; split <;> rfl
@[simp] theorem State.readStatus_ident (s : State) (w : Half) (b : Byte) :
    (s.readStatus w b).ident = s.ident := by unfold State.readStatus; split <;> rfl
@[simp] theorem State.readStatus_radio (s : State) (w : Half) (b : Byte) :
    (s.readStatus w b).radio = s.radio := by unfold State.readStatus; split <;> rfl
@[simp] theorem State.readStatus_buf (s : State) (w : Half) (b : Byte) :
    (s.readStatus w b).buf = s.buf := by unfold State.readStatus; split <;> rfl
@[simp] theorem State.readStatus_cursor (s : State) (w : Half) (b : Byte) :
    (s.readStatus w b).cursor = s.cursor := by unfold State.readStatus; split <;> rfl
@[simp] theorem State.readStatus_crc (s : State) (w : Half) (b : Byte) :
    (s.readStatus w b).crc = s.crc := by unfold State.readStatus; split <;> rfl
@[simp] theorem State.readStatus_crcSnap (s : State) (w : Half) (b : Byte) :
    (s.readStatus w b).crcSnap = s.crcSnap := by unfold State.readStatus; split <;> rfl
@[simp] theorem State.readStatus_frameReady (s : State) (w : Half) (b : Byte) :
    (s.readStatus w b).frameReady = s.frameReady := by unfold State.readStatus; split <;> rfl
@[simp] theorem State.readStatus_rssiNode (s : State) (w : Half) (b : Byte) :
    (s.readStatus w b).rssiNode = s.rssiNode := by unfold State.readStatus; split <;> rfl
@[simp] theorem State.readStatus_avail (s : State) (w : Half) (b : Byte) :
    (s.readStatus w b).avail = s.avail := by unfold State.readStatus; split <;> rfl
@[simp] theorem State.readStatus_acceptBroken (s : State) (w : Half) (b : Byte) :
    (s.readStatus w b).acceptBroken = s.acceptBroken := by unfold State.readStatus; split <;> rfl
@[simp] theorem State.readStatus_rxOn (s : State) (w : Half) (b : Byte) :
    (s.readStatus w b).rxOn = s.rxOn := by unfold State.readStatus; split <;> rfl
@[simp] theorem State.readStatus_txOn (s : State) (w : Half) (b : Byte) :
    (s.readStatus w b).txOn = s.txOn := by unfold State.readStatus; split <;> rfl
@[simp] theorem State.readStatus_wakeEn (s : State) (w : Half) (b : Byte) :
    (s.readStatus w b).wakeEn = s.wakeEn := by unfold State.readStatus; split <;> rfl
@[simp] theorem State.readStatus_wakeM (s : State) (w : Half) (b : Byte) :
    (s.readStatus w b).wakeM = s.wakeM := by unfold State.readStatus; split <;> rfl
@[simp] theorem State.readStatus_wakeE (s : State) (w : Half) (b : Byte) :
    (s.readStatus w b).wakeE = s.wakeE := by unfold State.readStatus; split <;> rfl
@[simp] theorem State.readStatus_woke (s : State) (w : Half) (b : Byte) :
    (s.readStatus w b).woke = s.woke := by unfold State.readStatus; split <;> rfl
@[simp] theorem State.readStatus_faultMark (s : State) (w : Half) (b : Byte) :
    (s.readStatus w b).faultMark = s.faultMark := by unfold State.readStatus; split <;> rfl
@[simp] theorem State.readStatus_refusedMark (s : State) (w : Half) (b : Byte) :
    (s.readStatus w b).refusedMark = s.refusedMark := by unfold State.readStatus; split <;> rfl
@[simp] theorem State.readStatus_cfg (s : State) (w : Half) (b : Byte) :
    (s.readStatus w b).cfg = s.cfg := by unfold State.readStatus; split <;> rfl
@[simp] theorem State.readStatus_inputs (s : State) (w : Half) (b : Byte) :
    (s.readStatus w b).inputs = s.inputs := by unfold State.readStatus; split <;> rfl
@[simp] theorem State.readStatus_results (s : State) (w : Half) (b : Byte) :
    (s.readStatus w b).results = s.results := by unfold State.readStatus; split <;> rfl
@[simp] theorem State.readStatus_draws (s : State) (w : Half) (b : Byte) :
    (s.readStatus w b).draws = s.draws := by unfold State.readStatus; split <;> rfl

end Sys2Proof.Machine
end

