-- ==== Sys2Proof/Laws/Ops.lean ====
section
/-! SUPPORT. One lemma per shared operation: everything it can do. -/

namespace Sys2Proof.Machine

/-! ## Answers and marks -/

theorem State.answer_next_iff {s t : State} {r : Half} :
    s.answer r = .next t ↔ t = { s with results := s.results ++ [r] } := by
  simp [State.answer, eq_comm]

theorem State.raiseFault_next_iff {s t : State} {c : FaultCode} :
    s.raiseFault c = .next t ↔ t = { s with faultMark := some c } := by
  simp [State.raiseFault, eq_comm]

theorem State.refuse_next_iff {s t : State} {c : RefusalCode} :
    s.refuse c = .next t ↔ t = { s with refusedMark := some c } := by
  simp [State.refuse, eq_comm]

@[simp] theorem boolWord_true : boolWord true = 0x0001 := rfl
@[simp] theorem boolWord_false : boolWord false = 0x0000 := rfl

/-! ## One search step (R253) -/

/-- Every case of one search step: a terminal stays; a node moves on, and programs the threshold of a
node it lands on. -/
theorem State.rssiStep_cases (s : State) (above : Bool) :
    (∃ j, s.rssiNode = .bucket j ∧ s.rssiStep above = s)
    ∨ (∃ n m, s.rssiNode = .node n ∧ rssiNext n above = .node m
        ∧ s.rssiStep above = { s with rssiNode := .node m }.bus (.setRssi s.cfg.rssiCode[m]))
    ∨ (∃ n j, s.rssiNode = .node n ∧ rssiNext n above = .bucket j
        ∧ s.rssiStep above = { s with rssiNode := .bucket j }) := by
  unfold State.rssiStep
  split
  · exact .inl ⟨_, ‹_›, rfl⟩
  · split
    · exact .inr (.inl ⟨_, _, ‹_›, ‹_›, rfl⟩)
    · exact .inr (.inr ⟨_, _, ‹_›, ‹_›, rfl⟩)

/-- One search step writes `RSSI_NODE` and the bus log, nothing else. -/
theorem State.rssiStep_frame (s : State) (above : Bool) :
    s.rssiStep above
      = { s with rssiNode := (s.rssiStep above).rssiNode, busLog := (s.rssiStep above).busLog } := by
  rcases s.rssiStep_cases above with ⟨j, -, h⟩ | ⟨n, m, -, -, h⟩ | ⟨n, j, -, -, h⟩ <;> rw [h] <;> rfl

/-- The search position after one step. -/
theorem State.rssiStep_node {s : State} {n : Fin 6} (h : s.rssiNode = .node n) (above : Bool) :
    (s.rssiStep above).rssiNode = rssiNext n above := by
  unfold State.rssiStep
  simp only [h]
  split <;> simp [*]

theorem State.rssiStep_bucket {s : State} {j : Fin 7} (h : s.rssiNode = .bucket j) (above : Bool) :
    s.rssiStep above = s := by
  unfold State.rssiStep
  simp only [h]

/-! ## Completion and acceptance (R188, R133) -/

/-- `complete` writes nothing but the draw counter. -/
theorem State.frameComplete_frame (s : State) :
    s.frameComplete.2 = { s with draws := s.frameComplete.2.draws } := by
  unfold State.frameComplete
  split <;> rfl


/-- `complete` with the length byte written: its value, and the state is kept. -/
theorem State.frameComplete_of_read {s : State} {l : Byte} (h : s.buf.read 1 = some l) :
    s.frameComplete = (completeWith s.cfg (if 2 ≤ s.cursor.toNat then l else 0) s.cursor, s) := by
  unfold State.frameComplete
  split <;> simp [State.readBuf_of_read h]

/-- `accept` with both bytes written: its value, and the state is kept. -/
theorem State.accept_of_read {s : State} {h l : Byte} (h0 : s.buf.read 0 = some h)
    (h1 : s.buf.read 1 = some l) : s.accept = (acceptWith s h l, s) := by
  simp [State.accept, State.readBuf_of_read h0, State.readBuf_of_read h1]

/-! ## One TxPayload step (R193) -/

/-- Inside the buffer the byte is emitted and fed and the offset advances; outside it the step faults. -/
theorem State.txPayloadStep_cases (s : State) (k : BitVec 8) :
    (∃ b u, txIndex (s.readBuf 1).1 k < s.cfg.bufCap
      ∧ (s.readBuf 1).2.readBuf (txIndex (s.readBuf 1).1 k) = (b, u)
      ∧ s.txPayloadStep k = .next { u.emit b (if k + 1 = 0 then .txCrcHigh else .txPayload (k + 1)) with
          crc := crc16Update s.crc b })
    ∨ (s.cfg.bufCap ≤ txIndex (s.readBuf 1).1 k
      ∧ s.txPayloadStep k = .fault (.bufIndex (txIndex (s.readBuf 1).1 k))) := by
  by_cases h : txIndex (s.readBuf 1).1 k < s.cfg.bufCap
  · exact .inl ⟨_, _, h, rfl, if_pos h⟩
  · exact .inr ⟨Nat.le_of_not_lt h, if_neg h⟩

/-! ## Services -/

/-- A service before the first REINIT only reads the status word; after it, it executes the events. -/
theorem State.service_cases (s : State) (w : Half) (b : Byte) :
    (s.init = false ∧ s.service w b = .next (s.bus (.status w)))
    ∨ (s.init = true
        ∧ s.service w b = execAll (statusEvents w b s.fifoCase) (s.readStatus w b)) := by
  unfold State.service
  cases h : s.init
  · exact .inl ⟨rfl, by simp [State.readStatus, State.rxCase, h]⟩
  · exact .inr ⟨rfl, by simp⟩

/-- A host command is executed, or its encoding refused. -/
theorem State.hostOp_cases (s : State) (h : Word) (d : DataPhase) :
    (∃ i, decodeHost h d = .ok i ∧ s.hostOp h d = exec i s)
    ∨ (∃ c, decodeHost h d = .error c ∧ s.hostOp h d = .next { s with refusedMark := some c }) := by
  unfold State.hostOp
  split
  · exact .inl ⟨_, ‹_›, rfl⟩
  · exact .inr ⟨_, ‹_›, rfl⟩

@[simp] theorem execAll_nil (s : State) : execAll [] s = .next s := rfl

theorem execAll_cons_next {i : Instr} {rest : List Instr} {s t : State} (h : exec i s = .next t) :
    execAll (i :: rest) s = execAll rest t := by simp [execAll, h]

/-- A service's events all ran: peel off the first. -/
theorem execAll_cons_inv {i : Instr} {rest : List Instr} {s u : State}
    (h : execAll (i :: rest) s = .next u) :
    ∃ t, exec i s = .next t ∧ execAll rest t = .next u := by
  unfold execAll at h
  split at h
  · exact ⟨_, ‹_›, h⟩
  · cases h
  · cases h

/-- The events of a status word: POR alone; OVF or a FIFO event, then WAKE; WAKE alone; none. -/
theorem statusEvents_cases (w : Half) (b : Byte) (c : FifoCase) :
    statusEvents w b c = [.evPor w]
    ∨ statusEvents w b c = [.evOvf w] ∨ statusEvents w b c = [.evOvf w, .evWake w]
    ∨ statusEvents w b c = [fifoEvent w b c] ∨ statusEvents w b c = [fifoEvent w b c, .evWake w]
    ∨ statusEvents w b c = [.evWake w] ∨ statusEvents w b c = [.evNone w] := by
  unfold statusEvents
  split
  · simp
  · split
    · split <;> simp
    · split
      · split <;> simp
      · split <;> simp

/-! ## Steps -/

/-- In a state with no mark, a step is a step of the agent that moves next. -/
theorem step_unmarked {s : State} (hf : s.faultMark = none) (hr : s.refusedMark = none) :
    step s = s.agentStep := by simp [step, State.markedStep, hf, hr]

/-- A step that answers a next state began with no mark. -/
theorem step_next_unmarked {s t : State} (h : step s = .next t) :
    s.faultMark = none ∧ s.refusedMark = none ∧ s.agentStep = .next t := by
  unfold step State.markedStep at h
  split at h
  · cases h
  · cases h
  · exact ⟨‹_›, ‹_›, h⟩

/-- Which agent moved, and what it ran. -/
theorem State.agentStep_cases (s : State) :
    (s.inputs = [] ∧ s.agentStep = s.freeService)
    ∨ (∃ h d rest, s.inputs = .host h d :: rest
        ∧ s.agentStep = { s with inputs := rest }.hostOp h d)
    ∨ (∃ w b rest, s.inputs = .irq w b :: rest
        ∧ s.agentStep = { s with inputs := rest }.service w b)
    ∨ (∃ w rest, s.inputs = .bus w :: rest
        ∧ s.agentStep = { s with inputs := rest }.busWord w) := by
  unfold State.agentStep
  split
  · exact .inl ⟨‹_›, rfl⟩
  · exact .inr (.inl ⟨_, _, _, ‹_›, rfl⟩)
  · exact .inr (.inr (.inl ⟨_, _, _, ‹_›, rfl⟩))
  · exact .inr (.inr (.inr ⟨_, _, ‹_›, rfl⟩))

end Sys2Proof.Machine
end

