-- ==== Sys2Proof/Laws/PerInstr.lean ====
section
/-! SUPPORT. The statement family `Row`: the encoded word of every well-formed instruction matches its row of
the opcode table (R91 to R98, R102 to R104), under the row's own mask. One lemma per constructor. -/

namespace Sys2Proof.Laws.Row

open Sys2Proof

/-- One row of the opcode table: its width in bits, its mask and its pattern. -/
structure TableRow where
  width : Nat
  mask  : Nat
  pat   : Nat
  deriving DecidableEq, Repr

/-- The row of an instruction. -/
def rowOf (i : Instr) : TableRow :=
  match i with
  | .reinit _ _ _ _ => ⟨32, 0xFC0000E0, 0x10000000⟩
  | .pktrdy => ⟨32, 0xFFFFFFFF, 0x20000000⟩
  | .cantx => ⟨32, 0xFFFFFFFF, 0x30000000⟩
  | .txbegin _ _ _ => ⟨32, 0xFFFF0000, 0x40000000⟩
  | .sleep _ => ⟨32, 0xFFFFFFFF, 0x50000000⟩
  | .woke => ⟨32, 0xFFFFFFFF, 0x60000000⟩
  | .setbrk _ => ⟨32, 0xFFFFFFFE, 0x70000000⟩
  | .rdhdr => ⟨32, 0xFFFFFFFF, 0x80000000⟩
  | .rdlen => ⟨32, 0xFFFFFFFF, 0x90000000⟩
  | .rddata _ => ⟨32, 0xFFFFFF00, 0xA0000000⟩
  | .rdrssi => ⟨32, 0xFFFFFFFF, 0xB0000000⟩
  | .rdflags => ⟨32, 0xFFFFFFFF, 0xC0000000⟩
  | .reservedOp0 _ => ⟨32, 0xF0000000, 0x00000000⟩
  | .reservedOpD _ => ⟨32, 0xF0000000, 0xD0000000⟩
  | .reservedOpE _ => ⟨32, 0xF0000000, 0xE0000000⟩
  | .reservedOpF _ => ⟨32, 0xF0000000, 0xF0000000⟩
  | .evPor _ => ⟨16, 0x4000, 0x4000⟩
  | .evWake _ => ⟨16, 0x5000, 0x1000⟩
  | .evOvf _ => ⟨16, 0x6000, 0x2000⟩
  | .evFifoRx _ _ => ⟨16, 0xE000, 0x8000⟩
  | .evFifoTx _ => ⟨16, 0xE000, 0x8000⟩
  | .evFifoIgn _ => ⟨16, 0xE000, 0x8000⟩
  | .evNone _ => ⟨16, 0xF000, 0x0000⟩
  | .setMode _ _ _ => ⟨16, 0xFF0D, 0x820D⟩
  | .setRssi _ => ⟨16, 0xFFF8, 0x94A0⟩
  | .txWrite _ => ⟨16, 0xFF00, 0xB800⟩
  | .wakeTimer _ _ => ⟨16, 0xE000, 0xE000⟩
  | .devReset => ⟨16, 0xFFFF, 0xFE00⟩
  | .status => ⟨16, 0xFFFF, 0x0000⟩

/-- The word on a port matches a row. -/
def portMatches (p : Input) (r : TableRow) : Prop :=
  match p with
  | .host h _ => r.width = 32 ∧ h &&& BitVec.ofNat 32 r.mask = BitVec.ofNat 32 r.pat
  | .irq w _ => r.width = 16 ∧ w &&& BitVec.ofNat 16 r.mask = BitVec.ofNat 16 r.pat
  | .bus w => r.width = 16 ∧ w &&& BitVec.ofNat 16 r.mask = BitVec.ofNat 16 r.pat

/-- The encoding of a well-formed instruction matches its row. -/
def Statement (i : Instr) : Prop := i.wf = true → portMatches (encode i) (rowOf i)

/-- Two words are equal if all their bits are. -/
theorem eq_of_bits32 {x y : Word} (h : ∀ i : Fin 32, x.getLsbD i.val = y.getLsbD i.val) : x = y :=
  BitVec.eq_of_getLsbD_eq fun i hi => h ⟨i, hi⟩

theorem reinit (node : BitVec 5) (band : BitVec 2) (group rate : Byte) :
    Statement (.reinit node band group rate) := by
  refine fun _ => ⟨rfl, eq_of_bits32 fun i => ?_⟩
  fin_cases i <;> simp only [BitVec.getLsbD_and, BitVec.getLsbD_append, rowOf] <;> simp

theorem pktrdy : Statement .pktrdy := fun _ => ⟨rfl, by decide⟩
theorem cantx : Statement .cantx := fun _ => ⟨rfl, by decide⟩

theorem txbegin (hdr len : Byte) (data : List Byte) : Statement (.txbegin hdr len data) := by
  refine fun _ => ⟨rfl, eq_of_bits32 fun i => ?_⟩
  fin_cases i <;> simp only [BitVec.getLsbD_and, BitVec.getLsbD_append, rowOf] <;> simp

theorem sleep (ms : Word) : Statement (.sleep ms) :=
  fun _ => ⟨rfl, by simp only [rowOf]; decide⟩
theorem woke : Statement .woke := fun _ => ⟨rfl, by decide⟩
theorem setbrk (v : Bool) : Statement (.setbrk v) := fun _ => ⟨rfl, by cases v <;> decide⟩
theorem rdhdr : Statement .rdhdr := fun _ => ⟨rfl, by decide⟩
theorem rdlen : Statement .rdlen := fun _ => ⟨rfl, by decide⟩

theorem rddata (idx : Byte) : Statement (.rddata idx) := by
  refine fun _ => ⟨rfl, eq_of_bits32 fun i => ?_⟩
  fin_cases i <;> simp only [BitVec.getLsbD_and, BitVec.getLsbD_append, rowOf] <;> simp

theorem rdrssi : Statement .rdrssi := fun _ => ⟨rfl, by decide⟩
theorem rdflags : Statement .rdflags := fun _ => ⟨rfl, by decide⟩

theorem reservedOp0 (low : BitVec 28) : Statement (.reservedOp0 low) := by
  refine fun _ => ⟨rfl, eq_of_bits32 fun i => ?_⟩
  fin_cases i <;> simp only [BitVec.getLsbD_and, BitVec.getLsbD_append, rowOf] <;> simp

theorem reservedOpD (low : BitVec 28) : Statement (.reservedOpD low) := by
  refine fun _ => ⟨rfl, eq_of_bits32 fun i => ?_⟩
  fin_cases i <;> simp only [BitVec.getLsbD_and, BitVec.getLsbD_append, rowOf] <;> simp

theorem reservedOpE (low : BitVec 28) : Statement (.reservedOpE low) := by
  refine fun _ => ⟨rfl, eq_of_bits32 fun i => ?_⟩
  fin_cases i <;> simp only [BitVec.getLsbD_and, BitVec.getLsbD_append, rowOf] <;> simp

theorem reservedOpF (low : BitVec 28) : Statement (.reservedOpF low) := by
  refine fun _ => ⟨rfl, eq_of_bits32 fun i => ?_⟩
  fin_cases i <;> simp only [BitVec.getLsbD_and, BitVec.getLsbD_append, rowOf] <;> simp

theorem evPor (w : Half) : Statement (.evPor w) := fun h => ⟨rfl, eq_of_beq h⟩
theorem evWake (w : Half) : Statement (.evWake w) := fun h => ⟨rfl, eq_of_beq h⟩
theorem evOvf (w : Half) : Statement (.evOvf w) := fun h => ⟨rfl, eq_of_beq h⟩
theorem evFifoRx (w : Half) (b : Byte) : Statement (.evFifoRx w b) := fun h => ⟨rfl, eq_of_beq h⟩
theorem evFifoTx (w : Half) : Statement (.evFifoTx w) := fun h => ⟨rfl, eq_of_beq h⟩
theorem evFifoIgn (w : Half) : Statement (.evFifoIgn w) := fun h => ⟨rfl, eq_of_beq h⟩
theorem evNone (w : Half) : Statement (.evNone w) := fun h => ⟨rfl, eq_of_beq h⟩

theorem setMode (rx tx wk : Bool) : Statement (.setMode rx tx wk) :=
  fun _ => ⟨rfl, by cases rx <;> cases tx <;> cases wk <;> decide⟩

theorem setRssi (code : BitVec 3) : Statement (.setRssi code) :=
  fun _ => ⟨rfl, by revert code; decide⟩

theorem txWrite (b : Byte) : Statement (.txWrite b) := by
  refine fun _ => ⟨rfl, BitVec.eq_of_getLsbD_eq fun i hi => ?_⟩
  rw [txwWord_default]
  interval_cases i <;> simp [rowOf]

theorem wakeTimer (m : Byte) (e : BitVec 5) : Statement (.wakeTimer m e) := by
  refine fun _ => ⟨rfl, BitVec.eq_of_getLsbD_eq fun i hi => ?_⟩
  rw [wakeWord_default]
  interval_cases i <;> simp [rowOf]

theorem devReset : Statement .devReset := fun _ => ⟨rfl, by decide⟩
theorem status : Statement .status := fun _ => ⟨rfl, by decide⟩

end Sys2Proof.Laws.Row
end

