-- ==== Sys2Proof/Tests/Slice0.lean ====
section
/-! SUPPORT. The model's own tests: ill-formed terms, words written out from the spec's layouts, one-step tests
with the results of 95_test_vectors, and a witness for the hypotheses of every statement. -/

namespace Sys2Proof.Tests

open Sys2Proof.Machine Sys2Proof.Safety

/-! ## Small states and views of a result -/

/-- After reset with the identity of 95_test_vectors in place of the free value. -/
def base : State := { State.resetOf Params.default with ident := ⟨7, 0xD4, 2, 6⟩ }

/-- "Booted" (95_test_vectors), with an empty log. -/
def booted : State := { base with init := true, avail := true }

/-- After PKTRDY from `booted`. -/
def armed : State := { booted with radio := .receiving, rxOn := true, crc := 0x1FBF }

/-- The frame `07 02 11 22 38 EF` stored, and one byte of it still to come. -/
def lastByte : State :=
  { armed with
    buf := [(0, 0x07), (1, 0x02), (2, 0x11), (3, 0x22), (4, 0x38)]
    cursor := 5, crc := 0x00EF, rssiNode := .bucket 5 }

/-- That frame complete. -/
def latched : State :=
  { armed with
    buf := [(0, 0x07), (1, 0x02), (2, 0x11), (3, 0x22), (4, 0x38), (5, 0xEF)]
    cursor := 6, crc := 0, crcSnap := 0, rssiNode := .bucket 5, frameReady := true, rxOn := false }

/-- Sending the frame `07 02 11 22`, in the state `r`. -/
def sending (r : RadioState) : State :=
  { booted with
    buf := [(0, 0x07), (1, 0x02), (2, 0x11), (3, 0x22)], radio := r, txOn := true }

/-- The next state of a result, if it is one. -/
def out (r : Result) : Option State :=
  match r with
  | .next t => some t
  | .fault _ => none
  | .refused _ => none

/-- The instruction a host word decodes to, if it does. -/
def dec (h : Word) (d : DataPhase) : Option Instr := (decodeHost h d).toOption

/-- The refusal of a host word, if it is refused. -/
def rej (h : Word) (d : DataPhase) : Option RefusalCode :=
  match decodeHost h d with
  | .ok _ => none
  | .error c => some c

/-! ## Ill-formed terms: one for each check of `Instr.wf` -/

theorem test_wf_txbegin_length : (Instr.txbegin 7 2 [0x11]).wf = false := by decide
theorem test_wf_evPor_needs_bit14 : (Instr.evPor 0xBFFF).wf = false := by decide
theorem test_wf_evWake_without_por : (Instr.evWake 0x5000).wf = false := by decide
theorem test_wf_evOvf_without_por : (Instr.evOvf 0x6000).wf = false := by decide
theorem test_wf_evFifoRx_without_ovf : (Instr.evFifoRx 0xA000 1).wf = false := by decide
theorem test_wf_evFifoTx_needs_bit15 : (Instr.evFifoTx 0x1000).wf = false := by decide
theorem test_wf_evFifoIgn_without_por : (Instr.evFifoIgn 0xC000).wf = false := by decide
theorem test_wf_evNone_without_wake : (Instr.evNone 0x1000).wf = false := by decide
theorem test_wf_wakeTimer_not_reset_word : (Instr.wakeTimer 0 30).wf = false := by decide

/-! ## Decoding: words from the bit layouts of R91 to R104, one at least per constructor -/

/-- R91 to R97, in the opcode map's order (95 V2.4a to V2.4p). -/
theorem test_decode_host_words :
    dec 0b00010010000001101101010000000111 {} = some (.reinit 7 2 212 6)
    ∧ dec 0b00010001000000000000000100000000 {} = some (.reinit 0 1 1 0)
    ∧ dec 0b00100000000000000000000000000000 {} = some .pktrdy
    ∧ dec 0b00110000000000000000000000000000 {} = some .cantx
    ∧ dec 0b01000000000000001000010100000000 {} = some (.txbegin 0x85 0 [])
    ∧ dec 0b01000000000000000000011100000010 { bytes := [0x11, 0x22] }
        = some (.txbegin 7 2 [0x11, 0x22])
    ∧ dec 0b01010000000000000000000000000000 { words := [600] } = some (.sleep 600)
    ∧ dec 0b01100000000000000000000000000000 {} = some .woke
    ∧ dec 0b01110000000000000000000000000001 {} = some (.setbrk true)
    ∧ dec 0b01110000000000000000000000000000 {} = some (.setbrk false)
    ∧ dec 0b10000000000000000000000000000000 {} = some .rdhdr
    ∧ dec 0b10010000000000000000000000000000 {} = some .rdlen
    ∧ dec 0b10100000000000000000000000000010 {} = some (.rddata 2)
    ∧ dec 0b10110000000000000000000000000000 {} = some .rdrssi
    ∧ dec 0b11000000000000000000000000000000 {} = some .rdflags := by decide

/-- R98: the reserved opcodes (95 V2.4q to V2.4s). -/
theorem test_decode_reserved_opcodes :
    dec 0x00000000 {} = some (.reservedOp0 0) ∧ dec 0xD0000000 {} = some (.reservedOpD 0)
    ∧ dec 0xE0000000 {} = some (.reservedOpE 0) ∧ dec 0xF0000001 {} = some (.reservedOpF 1) := by
  decide

/-- R98, R318: refused words (95 V2.4t to V2.4ad); a reserved field is found before the band and before
the data phase. -/
theorem test_decode_refusals :
    rej 0x20000001 {} = some .rsvField ∧ rej 0x1206D427 {} = some .rsvField
    ∧ rej 0x1606D407 {} = some .rsvField ∧ rej 0x1000D427 {} = some .rsvField
    ∧ rej 0x40010702 {} = some .rsvField ∧ rej 0x40000702 { bytes := [0x11] } = some .dataPhase
    ∧ rej 0x40000743 { bytes := List.replicate 66 0 } = some .dataPhase
    ∧ rej 0x50000000 {} = some .dataPhase ∧ rej 0x70000002 {} = some .rsvField
    ∧ rej 0xA0000100 {} = some .rsvField := by decide

/-- R102, R182: status words and the events they report (95 V2.4ag to V2.4ar). -/
theorem test_decode_status_words :
    statusEvents 0x0F00 0 .rx = [.evNone 0x0F00]
    ∧ statusEvents 0x8100 5 .rx = [.evFifoRx 0x8100 5]
    ∧ statusEvents 0x9000 5 .rx = [.evFifoRx 0x9000 5, .evWake 0x9000]
    ∧ statusEvents 0x8000 0 .tx = [.evFifoTx 0x8000]
    ∧ statusEvents 0x8000 0 .ignored = [.evFifoIgn 0x8000]
    ∧ statusEvents 0xA000 0 .rx = [.evOvf 0xA000]
    ∧ statusEvents 0x3000 0 .rx = [.evOvf 0x3000, .evWake 0x3000]
    ∧ statusEvents 0x1000 0 .rx = [.evWake 0x1000]
    ∧ statusEvents 0xF000 0 .rx = [.evPor 0xF000] := by decide

/-- R104: the default device words. -/
theorem test_decode_device_words :
    decodeDevice .default 0x820D = some (.setMode false false false)
    ∧ decodeDevice .default 0x82DD = some (.setMode true false false)
    ∧ decodeDevice .default 0x823F = some (.setMode false true true)
    ∧ decodeDevice .default 0x94A3 = some (.setRssi 3) ∧ decodeDevice .default 0xB8AA = some (.txWrite 0xAA)
    ∧ decodeDevice .default 0xE296 = some (.wakeTimer 150 2) ∧ decodeDevice .default 0xF8FF = some (.wakeTimer 255 24)
    ∧ decodeDevice .default 0xFE00 = some .devReset ∧ decodeDevice .default 0x0000 = some .status
    ∧ decodeDevice .default 0x4000 = none := by decide

/-- R11: with other parameters the same instruction has another word, which the instance reads back. -/
theorem test_decode_other_words :
    ({ DeviceWords.default with txw := { op := 0x0100, bits := #v[0x8000, 0, 0, 0, 0, 0, 0, 0] } }
      : DeviceWords).txw.word 1 = 0x8100
    ∧ decodeDevice { DeviceWords.default with reset := 0xCA81 } 0xCA81 = some .devReset
    ∧ (BusEntry.devReset.words { DeviceWords.default with reset := 0xCA81 }) = [0xCA81] := by decide

/-- R68: the FIFO byte 0x81 comes in most significant bit first, after the status word. -/
theorem test_wire_in :
    (BusEntry.fifoRead 0xC1).wireIn = [true, true, false, false, false, false, false, true]
    ∧ (BusEntry.status 0x8000).wireIn.head? = some true := by decide

/-- R311, R313: the values of the codes (95 V2.4q to V2.4ae). -/
theorem test_code_values :
    [RefusalCode.rsvOpcode, .rsvField, .dataPhase, .badBand, .indexRange].map RefusalCode.value
      = [1, 2, 3, 4, 5] ∧ [FaultCode.misuseTx, .notInit].map FaultCode.value = [1, 2] := by decide

/-- The opcode table's own words, and the service they are placed for (log 10, log 11). -/
theorem test_table_words :
    decodeTableWord 32 0x50000000 = some (.sleep 0)
    ∧ decodeTableWord 32 0x40000702 = some (.txbegin 7 2 [0, 0])
    ∧ decodeTableWord 16 0x4000 = some (.evPor 0x4000)
    ∧ decodeTableWord 16 0x8000 = some (.evFifoIgn 0x8000)
    ∧ decodeTableWord 16 0xB800 = some (.txWrite 0)
    ∧ (base.withFetchWord 16 0x2000).inputs = [.irq 0x2000 0] := by decide

/-! ## One step of each instruction (results from 95_test_vectors and the rules cited there) -/

/-- P1: REINIT logs the mode word and the reset and makes the core unavailable (R131). -/
theorem test_reinit_log :
    (out (exec (.reinit 7 2 0xD4 6) booted)).map (fun t => (t.busLog, t.avail, t.init, t.results))
      = some ([.setMode false false false, .devReset], false, true, [0]) := by decide

/-- V2.4w: band code 0 is refused and the identity kept (R131). -/
theorem test_reinit_band0 :
    (out (exec (.reinit 3 0 1 6) booted)).map (fun t => (t.refusedMark, t.ident.nodeId))
      = some (some .badBand, 7) := by decide

/-- P3, first step: the arm logs `SET_RSSI(3)` and `SET_MODE(1,0,0)` and feeds the group id (R132). -/
theorem test_pktrdy_arms :
    (out (exec .pktrdy booted)).map (fun t => (t.radio, t.crc, t.busLog, t.results))
      = some (.receiving, 0x1FBF, [.setRssi 3, .setMode true false false], [0]) := by decide

/-- V1.3h: a frame with a broken checksum is rejected while `ACCEPT_BROKEN = 0` (R133). -/
theorem test_pktrdy_broken :
    (out (exec .pktrdy { latched with crcSnap := 0xC0C1 })).map
      (fun t => (t.radio, t.frameReady, t.results)) = some (.idle, false, [0]) := by decide

/-- V1.6 (R135). -/
theorem test_cantx_idle :
    (out (exec .cantx booted)).map (fun t => (t.radio, t.busLog, t.results))
      = some (.idle, [.setMode false false false], [1]) := by decide

/-- CANTX during a transmission returns false (R135). -/
theorem test_cantx_sending :
    (out (exec .cantx (sending .txTail1))).map (fun t => (t.radio, t.busLog, t.results))
      = some (.txTail1, [], [0]) := by decide

/-- P2, first step (R136). -/
theorem test_txbegin_starts :
    (out (exec (.txbegin 7 2 [0x11, 0x22]) booted)).map (fun t => (t.buf, t.radio, t.busLog, t.crc))
      = some ([(0, 7), (1, 2), (2, 0x11), (3, 0x22)], .txPreamble,
          [.setMode false true false, .txWrite 0xAA], 0xFFFF) := by decide

/-- A payload of 67 bytes is an error result, whatever the state (R136, R318). -/
theorem test_txbegin_too_large :
    (out (exec (.txbegin 7 67 (List.replicate 67 0)) base)).map (fun t => (t.results, t.faultMark))
      = some ([1], none) := by decide

/-- V1.5a (R272). -/
theorem test_sleep_600 :
    (out (exec (.sleep 600) booted)).map (fun t => (t.busLog, t.wakeEn, t.wakeM, t.wakeE))
      = some ([.setMode false false false, .wakeTimer 150 2, .setMode false false true], true, 150, 2) := by
  decide

/-- SLEEP before the first REINIT faults, even with delay 0 (R272, R311). -/
theorem test_sleep_uninitialised :
    (out (exec (.sleep 0) base)).map (fun t => (t.faultMark, t.busLog))
      = some (some .notInit, []) := by decide

/-- WOKE reads and clears (R273). -/
theorem test_woke_clears :
    (out (exec .woke { booted with woke := true })).map (fun t => (t.woke, t.results))
      = some (false, [1]) := by decide

theorem test_setbrk :
    (out (exec (.setbrk true) booted)).map (fun t => (t.acceptBroken, t.results))
      = some (true, [0]) := by decide

theorem test_rdhdr : (out (exec .rdhdr latched)).map (·.results) = some [0x0007] := by decide
theorem test_rdlen : (out (exec .rdlen latched)).map (·.results) = some [0x0002] := by decide
theorem test_rddata : (out (exec (.rddata 1) latched)).map (·.results) = some [0x0022] := by decide

/-- V2.4ae: RDDATA 68 is refused, as `2 + 68 = BUF_CAP` (R140). -/
theorem test_rddata_range :
    (out (exec (.rddata 68) latched)).map (·.refusedMark) = some (some .indexRange) := by decide

/-- V2.2f: bucket 5 is -76 dBm, `0xFFB4` (R141, R255). -/
theorem test_rdrssi_bucket : (out (exec .rdrssi latched)).map (·.results) = some [0xFFB4] := by decide

/-- V2.2i: before the search ends the result is 0 (R141). -/
theorem test_rdrssi_node : (out (exec .rdrssi armed)).map (·.results) = some [0x0000] := by decide

/-- "Booted" has `F = 0x0003` (R142). -/
theorem test_rdflags_booted : (out (exec .rdflags booted)).map (·.results) = some [0x0003] := by decide

/-- A completed valid frame: available, initialised, ready, checksum right, tag 1 (R142). -/
theorem test_rdflags_latched : (out (exec .rdflags latched)).map (·.results) = some [0x0187] := by decide

/-- V2.4r (R98). -/
theorem test_reserved_opcodes :
    (out (exec (.reservedOp0 0) booted)).map (·.refusedMark) = some (some .rsvOpcode)
    ∧ (out (exec (.reservedOpD 1) booted)).map (·.refusedMark) = some (some .rsvOpcode)
    ∧ (out (exec (.reservedOpE 2) booted)).map (·.refusedMark) = some (some .rsvOpcode)
    ∧ (out (exec (.reservedOpF 3) booted)).map (·.refusedMark) = some (some .rsvOpcode) := by decide

/-- P1: the POR service (R183). -/
theorem test_evPor :
    (out (exec (.evPor 0x4000) { base with init := true })).map (fun t => (t.avail, t.busLog))
      = some (true, [.config ⟨7, 0xD4, 2, 6⟩, .setMode false false false]) := by decide

/-- P5: the wake service keeps the receiver as it was (R184). -/
theorem test_evWake :
    (out (exec (.evWake 0x1000) { armed with wakeEn := true })).map
      (fun t => (t.woke, t.wakeEn, t.busLog)) = some (true, false, [.setMode true false false]) := by
  decide

/-- V1.7: overflow in the middle of a receive (R185). -/
theorem test_evOvf_receiving :
    (out (exec (.evOvf 0x2000) lastByte)).map (fun t => (t.radio, t.cursor, t.crc, t.rssiNode, t.busLog))
      = some (.receiving, 0, 0x1FBF, .node 3,
          [.setMode false false false, .setRssi 3, .setMode true false false]) := by decide

/-- Overflow in a transmit state aborts (R185). -/
theorem test_evOvf_sending :
    (out (exec (.evOvf 0x2000) (sending .txTail1))).map (fun t => (t.radio, t.txOn))
      = some (.idle, false) := by decide

/-- P3: the first byte moves the search up from node 3 to node 5 (R187, R253). -/
theorem test_evFifoRx_first :
    (out (exec (.evFifoRx 0x8100 0x07) armed)).map
      (fun t => (t.buf, t.cursor, t.crc, t.rssiNode, t.busLog))
      = some ([(0, 0x07)], 1, 0x721F, .node 5, [.setRssi 5]) := by decide

/-- P3: the last byte completes the frame (R187, R188). -/
theorem test_evFifoRx_last :
    (out (exec (.evFifoRx 0x8000 0xEF) lastByte)).map
      (fun t => (t.frameReady, t.crcSnap, t.cursor, t.rxOn, t.busLog))
      = some (true, 0x0000, 6, false, [.setMode false false false]) := by decide

/-- P2: TxSync2 emits the group id and enters `TxPayload(-4)` (R192). -/
theorem test_evFifoTx_sync2 :
    (out (exec (.evFifoTx 0x8000) (sending .txSync2))).map (fun t => (t.radio, t.crc, t.busLog))
      = some (.txPayload (-4), 0x1FBF, [.txWrite 0xD4]) := by decide

/-- P2: the last payload byte is `BUF[3]`, and the trailer follows (R193). -/
theorem test_evFifoTx_payload :
    (out (exec (.evFifoTx 0x8000) { sending (.txPayload (-1)) with crc := 0x7949 })).map
      (fun t => (t.radio, t.crc, t.busLog)) = some (.txCrcHigh, 0xEF38, [.txWrite 0x22]) := by decide

/-- V2.4ar (R199), and EV_NONE (R181). -/
theorem test_evFifoIgn : out (exec (.evFifoIgn 0x8000) booted) = some booted := by decide
theorem test_evNone : out (exec (.evNone 0x0F00) armed) = some armed := by decide

/-- R66: the bus operations. -/
theorem test_setMode :
    (out (exec (.setMode true false true) booted)).map (fun t => (t.rxOn, t.txOn, t.wakeEn))
      = some (true, false, true) := by decide
theorem test_setRssi :
    (out (exec (.setRssi 4) booted)).map (·.busLog) = some [.setRssi 4] := by decide
theorem test_txWrite :
    (out (exec (.txWrite 0x2D) booted)).map (·.busLog) = some [.txWrite 0x2D] := by decide
theorem test_wakeTimer :
    (out (exec (.wakeTimer 150 2) booted)).map (fun t => (t.busLog, t.wakeM))
      = some ([.wakeTimer 150 2], 0) := by decide
theorem test_devReset : (out (exec .devReset booted)).map (·.busLog) = some [.devReset] := by decide
theorem test_status :
    (out (exec .status booted)).map (fun t => (t.busLog.length, t.draws)) = some (1, 1) := by decide

/-! ## Datapaths -/

/-- V2.1a to V2.1j. -/
theorem test_crc_updates :
    crc16Update 0xFFFF 0x00 = 0x40BF ∧ crc16Update 0xFFFF 0x01 = 0x807E
    ∧ crc16Update 0x0000 0x01 = 0xC0C1 ∧ crc16Update 0x1234 0x56 = 0xE993
    ∧ crc16Update 0xA001 0x00 = 0xC061 := by decide

/-- V2.1l. -/
theorem test_crc_digits :
    crcFold 0xFFFF [0x31, 0x32, 0x33, 0x34, 0x35, 0x36, 0x37, 0x38, 0x39] = 0x4B37 := by
  decide +kernel

/-- V2.3c to V2.3p. -/
theorem test_wake_encode :
    wakeEncode 255 = (255, 0) ∧ wakeEncode 256 = (128, 1) ∧ wakeEncode 601 = (150, 2)
    ∧ wakeEncode 60000 = (234, 8) ∧ wakeEncode 4294967295 = (255, 24) :=
  ⟨rfl, rfl, rfl, rfl, rfl⟩

/-- R105: assembler lines. -/
theorem test_asm :
    (Instr.rddata 2).asm = some "RDDATA 2" ∧ (Instr.setbrk true).asm = some "SETBRK 1" := ⟨rfl, rfl⟩

/-! ## Witnesses: for every statement with hypotheses, operands and a state that meet them, one for each
clause, at the edge of its range where it has one -/

theorem test_hyp_StatusWordEventsInOrder :
    (0x4000 : Half).getLsbD 14 = true ∧ (0xFFFF : Half).getLsbD 14 = true
    ∧ ((0xBFFF : Half).getLsbD 14 = false ∧ (0xBFFF : Half).getLsbD 13 = true)
    ∧ ((0x9FFF : Half).getLsbD 14 = false ∧ (0x9FFF : Half).getLsbD 13 = false
        ∧ (0x9FFF : Half).getLsbD 15 = true)
    ∧ ((0x1FFF : Half).getLsbD 14 = false ∧ (0x1FFF : Half).getLsbD 13 = false
        ∧ (0x1FFF : Half).getLsbD 15 = false) := by decide

theorem test_hyp_DecodeOfEncodeIsTheInstruction :
    (Instr.txbegin 7 2 [0x11, 0x22]).wf = true ∧ (Instr.evFifoTx 0x9FFF).wf = true
    ∧ (Instr.wakeTimer 255 30).wf = true ∧ (Instr.wakeTimer 0 31).wf = true := by decide

theorem test_hyp_EncodeOfDecodeIsTheWord :
    decodeHost 0x40000702 { bytes := [0x11, 0x22] } = .ok (.txbegin 7 2 [0x11, 0x22])
    ∧ decodeHost 0xF0000001 { words := [5] } = .ok (.reservedOpF 1)
    ∧ decodeDevice .default 0xFF00 = some (.wakeTimer 0 31)
    ∧ Instr.evWake 0x9000 ∈ statusEvents 0x9000 0 .ignored := ⟨rfl, rfl, by decide, by decide⟩

theorem test_hyp_RefusedEncodingsByCause :
    reservedOpcode (opField 0xD0000001)
    ∧ (¬ reservedOpcode (opField 0x10000020) ∧ (0x10000020 : Word) &&& reservedBits (opField 0x10000020) ≠ 0)
    ∧ (¬ reservedOpcode (opField 0x40000002) ∧ (0x40000002 : Word) &&& reservedBits (opField 0x40000002) = 0
        ∧ ¬ dataPhaseFits 0x40000002 { bytes := [1] })
    ∧ (¬ reservedOpcode (opField 0x50000000) ∧ (0x50000000 : Word) &&& reservedBits (opField 0x50000000) = 0
        ∧ dataPhaseFits 0x50000000 { words := [5] }) := by
  refine ⟨by decide, by decide, ⟨by decide, by decide, ?_⟩, by decide, by decide, ?_⟩
  · show ¬ ([1].length = 2 ∧ _)
    decide
  · exact ⟨rfl, rfl⟩

theorem test_hyp_StepRunsTheDecodedHostOperation :
    (final { booted with inputs := [.host 0x60000000 {}] } ∧ decodeHost 0x60000000 {} = .ok .woke)
    ∧ decodeHost 0x60000001 {} = .error .rsvField := ⟨⟨by decide, rfl⟩, rfl⟩

/-- The state with one service waiting. -/
def serving (s : State) (w : Half) (b : Byte) : State := { s with inputs := [.irq w b] }

theorem test_hyp_StepRunsTheService_events :
    (∃ t, exec (.evOvf 0x3000) armed = .next t)
    ∧ ∀ t, exec (.evFifoRx 0x8000 1) { armed with cursor := 70 } ≠ .next t :=
  ⟨⟨_, rfl⟩, fun _ h => by cases h⟩

theorem test_hyp_StepRunsTheService :
    (final (serving base 0x8000 1) ∧ (serving base 0x8000 1).inputs = .irq 0x8000 1 :: []
        ∧ (serving base 0x8000 1).init = false)
    ∧ (final (serving armed 0x9FFF 1) ∧ (serving armed 0x9FFF 1).inputs = .irq 0x9FFF 1 :: []
        ∧ (serving armed 0x9FFF 1).init = true ∧ (serving armed 0x9FFF 1).radio = .receiving
        ∧ (serving armed 0x9FFF 1).frameReady = false ∧ (0x9FFF : Half).extractLsb' 13 3 = 0b100)
    ∧ (final (serving armed 0xA000 1) ∧ (serving armed 0xA000 1).inputs = .irq 0xA000 1 :: []
        ∧ (serving armed 0xA000 1).init = true ∧ (serving armed 0xA000 1).radio = .receiving
        ∧ (serving armed 0xA000 1).frameReady = false ∧ (0xA000 : Half).extractLsb' 13 3 ≠ 0b100)
    ∧ (final (serving (sending .txDone) 0x8000 0)
        ∧ (serving (sending .txDone) 0x8000 0).inputs = .irq 0x8000 0 :: []
        ∧ (serving (sending .txDone) 0x8000 0).init = true
        ∧ (serving (sending .txDone) 0x8000 0).radio.isTx = true)
    ∧ (final (serving booted 0x8000 0) ∧ (serving booted 0x8000 0).inputs = .irq 0x8000 0 :: []
        ∧ (serving booted 0x8000 0).init = true ∧ (serving booted 0x8000 0).radio = .idle)
    ∧ (final (serving latched 0x8000 0) ∧ (serving latched 0x8000 0).inputs = .irq 0x8000 0 :: []
        ∧ (serving latched 0x8000 0).init = true ∧ (serving latched 0x8000 0).radio = .receiving
        ∧ (serving latched 0x8000 0).frameReady = true) := by decide

theorem test_hyp_StepWithoutInputIsAServiceWithFreeDraws : final booted ∧ booted.inputs = [] := by decide

theorem test_hyp_MarkedMachineHasNoStep :
    ¬ final { booted with faultMark := some .misuseTx }
    ∧ ¬ final { booted with refusedMark := some .badBand } := by decide

theorem test_hyp_MarkIsTheOnlyChange :
    (∃ t, exec (.sleep 0) base = .next t ∧ t.faultMark ≠ base.faultMark)
    ∧ (∃ t, exec (.rddata 68) booted = .next t ∧ t.refusedMark ≠ booted.refusedMark) :=
  ⟨⟨_, rfl, by decide⟩, ⟨_, rfl, by decide⟩⟩

theorem test_hyp_ReinitSetsIdentityAndRestartsEngine :
    (1 : BitVec 2) ≠ 0 ∧ (3 : BitVec 2) ≠ 0
    ∧ (opField 0x13FFFF1F = 0x1 ∧ (0x13FFFF1F : Word).extractLsb' 26 2 = 0
        ∧ (0x13FFFF1F : Word).extractLsb' 5 3 = 0)
    ∧ (opField 0x14000000 = 0x1 ∧ (0x14000000 : Word).extractLsb' 26 2 ≠ 0)
    ∧ (opField 0x11000080 = 0x1 ∧ (0x11000080 : Word).extractLsb' 5 3 ≠ 0) := by decide

theorem test_hyp_PktrdyArmsTheReceiver :
    (booted.frameReady = false ∧ booted.radio = .idle ∧ booted.avail = true)
    ∧ (armed.frameReady = false ∧ armed.radio ≠ .idle)
    ∧ (base.frameReady = false ∧ base.avail = false) := by decide

theorem test_hyp_PktrdyEvaluatesTheFrame :
    latched.frameReady = true ∧ latched.buf.read 0 = some 0x07 ∧ latched.buf.read 1 = some 0x02 := by
  decide

theorem test_hyp_CantxClaimsTheChannel :
    (booted.avail = true ∧ booted.radio = .idle) ∧ (armed.avail = true ∧ armed.radio = .receiving)
    ∧ base.avail = false ∧ (sending .txDone).radio.isTx = true := by decide

theorem test_hyp_TxbeginStoresTheFrameAndStarts :
    ((List.replicate 66 (0x5A : Byte)).length = (66 : Byte).toNat
      ∧ (66 : Byte).toNat ≤ booted.cfg.maxPayload ∧ booted.avail = true ∧ booted.radio = .idle)
    ∧ ([] : List Byte).length = (0 : Byte).toNat
    ∧ (67 : Byte).toNat > base.cfg.maxPayload
    ∧ ((0 : Byte).toNat ≤ armed.cfg.maxPayload ∧ armed.radio ≠ .idle)
    ∧ ((66 : Byte).toNat ≤ base.cfg.maxPayload ∧ base.avail = false)
    ∧ (opField 0x40008501 = 0x4 ∧ (0x40008501 : Word).extractLsb' 16 12 = 0
        ∧ [(1 : Byte)].length = ((0x40008501 : Word).extractLsb' 0 8).toNat
        ∧ ([] : List Byte).length ≠ ((0x40008501 : Word).extractLsb' 0 8).toNat) := by decide

theorem test_hyp_SendStartsTheTransmission :
    (([0x41] : List Byte).length = (1 : Byte).toNat ∧ (1 : Byte).toNat ≤ booted.cfg.maxPayload
      ∧ booted.avail = true ∧ booted.radio = .idle)
    ∧ armed.avail = true ∧ armed.radio = .receiving := by decide

theorem test_hyp_SetbrkWritesTheSetting :
    opField 0x70000002 = 0x7 ∧ (0x70000002 : Word).extractLsb' 1 27 ≠ 0 := by decide

theorem test_hyp_SleepArmsTheWakeTimer :
    ({ bytes := [1] } : DataPhase).words = []
    ∧ base.init = false ∧ booted.init = true ∧ (1 : Word) ≠ 0 ∧ (0xFFFFFFFF : Word) ≠ 0 := by decide

theorem test_hyp_WokeReadsAndClears :
    { booted with woke := true }.woke = true ∧ booted.woke = false := by decide

theorem test_hyp_AccessorsReturnBufferBytes :
    (latched.buf.read 0 = some 0x07 ∧ latched.buf.read 1 = some 0x02)
    ∧ (2 + (0 : Byte).toNat < latched.cfg.bufCap ∧ latched.buf.read (2 + (0 : Byte).toNat) = some 0x11)
    ∧ (booted.buf.read 0 = none ∧ booted.buf.read 1 = none)
    ∧ (2 + (67 : Byte).toNat < booted.cfg.bufCap ∧ booted.buf.read (2 + (67 : Byte).toNat) = none)
    ∧ booted.cfg.bufCap ≤ 2 + (68 : Byte).toNat := by decide

theorem test_hyp_RdrssiReturnsTheEstimate :
    armed.rssiNode = .node 3 ∧ latched.rssiNode = .bucket 5 := by decide

/-- A witness for the payload clause of `RdflagsReportsEveryFlag`; the other states are `sending`'s. -/
theorem test_hyp_RdflagsReportsEveryFlag :
    (sending (.txPayload (-4))).radio = .txPayload (-4) ∧ booted.radio = .idle
    ∧ armed.radio = .receiving ∧ (sending .txSync2).radio = .txSync2
    ∧ (∀ k, booted.radio ≠ .txPayload k) := ⟨rfl, rfl, rfl, rfl, fun _ h => by cases h⟩

theorem test_hyp_OverflowRearmsOrAborts :
    (armed.radio = .receiving ∧ armed.frameReady = false) ∧ (sending .txPreamble).radio.isTx = true
    ∧ booted.radio = .idle ∧ (latched.radio = .receiving ∧ latched.frameReady = true) := by decide

/-- The clauses at their edges: a first byte, a length byte, a byte that completes the frame, and one before
it. -/
theorem test_hyp_ReceiveServiceStoresAndFeeds :
    armed.cfg.wf
    ∧ (armed.cursor.toNat < armed.cfg.bufCap ∧ ¬ 1 ≤ armed.cursor.toNat
        ∧ armed.rssiNode = .node 3 ∧ armed.cursor.toNat + 1 ≠ armed.cfg.bufCap)
    ∧ (lastByte.cursor.toNat < lastByte.cfg.bufCap ∧ lastByte.cursor.toNat ≠ 1
        ∧ lastByte.buf.read 1 = some 2 ∧ lastByte.rssiNode = .bucket 5
        ∧ 2 ≤ lastByte.cursor.toNat + 1 ∧ lastByte.cursor.toNat + 1 > (2 : Byte).toNat + 3)
    ∧ (({ lastByte with cursor := 4 } : State).cursor.toNat + 1 ≤ (2 : Byte).toNat + 3)
    ∧ (({ lastByte with cursor := 69 } : State).cursor.toNat + 1 = lastByte.cfg.bufCap) := by decide

theorem test_hyp_TransmitChainEmitsAndAdvances :
    (sending .txPreamble).radio = .txPreamble ∧ (sending .txSync1).radio = .txSync1
    ∧ (sending .txCrcHigh).radio = .txCrcHigh ∧ (sending .txCrcLow).radio = .txCrcLow
    ∧ (sending .txTail1).radio = .txTail1 ∧ (sending .txTail2).radio = .txTail2
    ∧ (sending .txDone).radio = .txDone := by decide

/-- The first offset, -4, sends `BUF[0]`; the last, -1, sends `BUF[3]`. -/
theorem test_hyp_TransmitPayloadRunsOverTheFrame :
    ((sending .txSync2).radio = .txSync2 ∧ (sending .txSync2).buf.read 1 = some 2 ∧ (2 : Byte).toNat ≤ 126)
    ∧ ((2 : Byte).toNat ≤ (sending .txSync2).cfg.maxPayload ∧ (sending .txSync2).cfg.wf)
    ∧ (-(2 + ((2 : Byte).toNat : Int)) ≤ (-4 : BitVec 8).toInt ∧ (-4 : BitVec 8).toInt ≤ -1
        ∧ ((0 : Nat) : Int) = 2 + (2 : Byte).toNat + (-4 : BitVec 8).toInt
        ∧ (sending (.txPayload (-4))).buf.read 0 = some 0x07)
    ∧ (-(2 + ((2 : Byte).toNat : Int)) ≤ (-1 : BitVec 8).toInt ∧ (-1 : BitVec 8).toInt ≤ -1
        ∧ ((3 : Nat) : Int) = 2 + (2 : Byte).toNat + (-1 : BitVec 8).toInt
        ∧ (sending (.txPayload (-1))).buf.read 3 = some 0x22) := by decide

theorem test_hyp_IgnoredEventsChangeNothing :
    booted.radio = .idle ∧ (latched.radio = .receiving ∧ latched.frameReady = true)
    ∧ (0x8FFF : Half).extractLsb' 13 3 = 0b100 ∧ (0x8FFF : Half).getLsbD 12 = false := by decide

theorem test_hyp_BusOperationWords :
    (BusEntry.setRssi 7).words .default = [0x94A7] ∧ (BusEntry.txWrite 0xFF).words .default = [0xB8FF]
    ∧ (BusEntry.wakeTimer 255 24).words .default = [0xF8FF] ∧ (24 : BitVec 5).toNat ≤ 24 := by decide

/-- A word to clock out, at its first and last bit: 0x820D, with everything off. -/
theorem test_hyp_BusOperationWords_wire :
    ((BusEntry.setMode false false false).words .default)[0]? = some 0x820D
    ∧ ((BusEntry.setMode false false false).wire .default)[0]? = some true
    ∧ ((BusEntry.setMode false false false).wire .default)[14]? = some false
    ∧ ((BusEntry.setMode false false false).wire .default)[15]? = some true := by decide

theorem test_hyp_RssiSearch : booted.rssiNode = .node 3 := by decide

/-- The stepping function of `RssiSearchCountsThresholds`, for the signal of bucket 6. -/
theorem test_hyp_RssiSearchCountsThresholds :
    ∃ f : State → State, ∀ u : State, f u = u.rssiStep (match u.rssiNode with
      | .node n => decide (n.val < (6 : Fin 7).val)
      | .bucket _ => false) := ⟨_, fun _ => rfl⟩

theorem test_hyp_WakeEncodeRoundsDown :
    (1 : Word) ≠ 0 ∧ wakeEncode 1 = (1, 0) ∧ wakeEncode 255 = (255, 0) ∧ wakeEncode 256 = (128, 1)
    ∧ (255 : Word).toNat ≤ 255 ∧ 256 ≤ (256 : Word).toNat := by decide

theorem test_hyp_ResetMeetsTheInvariant :
    Params.default.wf ∧ { Params.default with maxPayload := 1 }.wf
    ∧ { Params.default with maxPayload := 126 }.wf := by decide

/-! ### States that meet the invariant -/

theorem base_inv (is : List Input) (h : ∀ x ∈ is, ∀ w, x ≠ .bus w) : Inv { base with inputs := is } where
  latched := by intro h; cases h
  latchedTx := by intro h; cases h
  receiving := by intro h; cases h
  transmitting := by intro h; cases h
  idle := fun _ => ⟨rfl, rfl⟩
  unavailable := fun _ => rfl
  payload := by intro k h; cases h
  cursor := (by decide : base.cursor.toNat ≤ base.cfg.bufCap)
  notComplete := by intro h; cases h
  declared := by rintro (h | h | h) <;> cases h
  stored := by intro h; cases h
  searching := by intro h; cases h
  initialised := by intro h; cases h
  bufWf := List.Pairwise.nil
  bufRange := by intro x h; cases h
  params := (by decide : base.cfg.wf)
  agents := h

/-- A receive in progress: the last byte of the frame `07 02 11 22 38 EF` is the next input. -/
def receivingState : State := { lastByte with inputs := [.irq 0x9000 0xEF] }

theorem receivingState_inv : Inv receivingState where
  latched := by intro h; cases h
  latchedTx := by intro h; cases h
  receiving := fun _ _ => ⟨rfl, rfl⟩
  transmitting := by intro h; cases h
  idle := by intro h; cases h
  unavailable := by intro h; cases h
  payload := by intro k h; cases h
  cursor := by decide
  notComplete := by
    intro _ _ l h
    cases h (by decide)
    rfl
  declared := by rintro (h | h | h) <;> cases h
  stored := by
    intro _ i hi
    have h5 : i < 5 := hi
    interval_cases i <;> rfl
  searching := by intro _; exact Nat.zero_le _
  initialised := fun _ => rfl
  bufWf := by decide
  bufRange := by decide
  params := by decide
  agents := by
    intro x h w hx
    subst hx
    cases h with
    | tail _ h => cases h

/-- A transmission in progress: the last payload byte is asked for next. -/
def sendingState : State :=
  { sending (.txPayload (-1)) with crc := 0x7949, inputs := [.irq 0x8000 0] }

theorem sendingState_inv : Inv sendingState where
  latched := by intro h; cases h
  latchedTx := by intro h; cases h
  receiving := by intro h; cases h
  transmitting := fun _ => ⟨rfl, rfl⟩
  idle := by intro h; cases h
  unavailable := by intro h; cases h
  payload := by
    intro k h
    cases h
    exact ⟨2, rfl, by decide, by decide, by decide⟩
  cursor := by decide
  notComplete := by intro h; cases h
  declared := by rintro (h | h | h) <;> cases h
  stored := by intro h; cases h
  searching := by intro h; cases h
  initialised := fun _ => rfl
  bufWf := by decide
  bufRange := by decide
  params := by decide
  agents := by
    intro x h w hx
    subst hx
    cases h with
    | tail _ h => cases h

theorem test_hyp_StepKeepsTheInvariant :
    (∃ t, Inv receivingState ∧ step receivingState = .next t)
    ∧ (∃ t, Inv sendingState ∧ step sendingState = .next t) :=
  ⟨⟨_, receivingState_inv, rfl⟩, ⟨_, sendingState_inv, rfl⟩⟩

theorem test_hyp_InvariantStateAlwaysHasAStep : Inv sendingState ∧ final sendingState :=
  ⟨sendingState_inv, by decide⟩

theorem test_hyp_StepKeepsTheReceiveChecksum :
    ∃ t, Inv receivingState ∧ rxChecksum receivingState ∧ step receivingState = .next t :=
  ⟨_, receivingState_inv, ⟨fun _ => by decide +kernel, fun h => by cases h⟩, rfl⟩

theorem test_hyp_StepKeepsTheTransmitChecksum :
    ∃ t, Inv sendingState ∧ txFrameStored sendingState ∧ txChecksum sendingState
      ∧ step sendingState = .next t := by
  refine ⟨_, sendingState_inv, fun _ => ⟨2, rfl, by decide, ?_⟩, ⟨?_, ?_⟩, rfl⟩
  · intro i hi
    have h4 : i < 4 := hi
    interval_cases i <;> rfl
  · intro k l hk hl
    cases hk
    cases hl
    decide +kernel
  · rintro l (h | h) <;> cases h

theorem test_hyp_BusOperationsPerStepAreBounded :
    ∃ t, Inv receivingState ∧ step receivingState = .next t ∧ t.busLog.length = 4 :=
  ⟨_, receivingState_inv, rfl, by decide⟩

theorem test_hyp_BufferWriters :
    (∃ t, exec (.txbegin 7 1 [0x41]) booted = .next t ∧ ¬ storesAt (.txbegin 7 1 [0x41]) booted 3)
    ∧ (∃ t, exec (.evFifoRx 0x8000 1) armed = .next t ∧ ¬ storesAt (.evFifoRx 0x8000 1) armed 1)
    ∧ (∃ t, exec .cantx booted = .next t ∧ ¬ storesAt .cantx booted 0) :=
  ⟨⟨_, rfl, (by decide : ¬ 3 < 3)⟩, ⟨_, rfl, (by decide : ¬ 1 = 0)⟩, ⟨_, rfl, id⟩⟩

theorem test_hyp_RadioStateWriters :
    ∃ t, exec (.evFifoTx 0x8000) (sending .txDone) = .next t ∧ t.radio ≠ (sending .txDone).radio :=
  ⟨_, rfl, by decide⟩

theorem test_hyp_IdentityWrittenOnlyByReinit :
    ∃ t, exec (.reinit 1 1 2 3) base = .next t ∧ t.ident ≠ base.ident ∧ t.init ≠ base.init :=
  ⟨_, rfl, by decide, by decide⟩

theorem test_hyp_LatchWriters :
    (∃ t, exec (.evFifoRx 0x8000 0xEF) lastByte = .next t
      ∧ lastByte.frameReady = false ∧ t.frameReady = true)
    ∧ (∃ t, exec .pktrdy latched = .next t ∧ latched.frameReady = true ∧ t.frameReady = false)
    ∧ (∃ t, exec (.evPor 0x4000) base = .next t ∧ base.avail = false ∧ t.avail = true)
    ∧ (∃ t, exec (.reinit 1 1 2 3) booted = .next t ∧ booted.avail = true ∧ t.avail = false)
    ∧ (∃ t, exec (.setbrk true) booted = .next t ∧ t.acceptBroken ≠ booted.acceptBroken)
    ∧ (∃ t, exec (.evWake 0x1000) booted = .next t ∧ booted.woke = false ∧ t.woke = true)
    ∧ (∃ t, exec .woke { booted with woke := true } = .next t ∧ t.woke = false) :=
  ⟨⟨_, rfl, rfl, rfl⟩, ⟨_, rfl, rfl, rfl⟩, ⟨_, rfl, rfl, rfl⟩, ⟨_, rfl, rfl, rfl⟩,
    ⟨_, rfl, by decide⟩, ⟨_, rfl, rfl, rfl⟩, ⟨_, rfl, rfl⟩⟩

theorem test_hyp_EngineRegisterWriters :
    (∃ t, exec (.evFifoRx 0x8000 0xEF) lastByte = .next t ∧ t.crcSnap ≠ lastByte.crcSnap
      ∧ t.cursor ≠ lastByte.cursor ∧ t.crc ≠ lastByte.crc)
    ∧ (∃ t, exec (.sleep 600) booted = .next t ∧ t.wakeM ≠ booted.wakeM ∧ t.wakeE ≠ booted.wakeE)
    ∧ (∃ t, exec (.evFifoRx 0x8000 7) armed = .next t ∧ t.rssiNode ≠ armed.rssiNode)
    ∧ (∃ t, exec (.evFifoTx 0x8000) (sending .txSync2) = .next t ∧ t.crc ≠ (sending .txSync2).crc) :=
  ⟨⟨_, rfl, by decide, by decide, by decide⟩, ⟨_, rfl, by decide, by decide⟩, ⟨_, rfl, by decide⟩,
    ⟨_, rfl, by decide⟩⟩

theorem test_hyp_MirrorsFollowTheBusLog :
    ∃ t, step { armed with inputs := [.irq 0x3000 0] } = .next t ∧ t.busLog.length = 5 :=
  ⟨_, rfl, by decide⟩

theorem test_hyp_WakeRegistersAreHidden :
    Instr.rdflags ≠ .woke ∧ ∃ t, exec .rdflags booted = .next t := ⟨by decide, _, rfl⟩

theorem test_hyp_IdentityUnreadBeforeReinit :
    ∃ t, Inv { base with inputs := [.irq 0x4000 0] } ∧ base.init = false
      ∧ step { base with inputs := [.irq 0x4000 0] } = .next t :=
  ⟨_, base_inv _ (by intro x h w hx; subst hx; cases h with | tail _ h => cases h), rfl, rfl⟩

/-! ### Services in `Idle`, and a run that lasts -/

/-- In `Idle` with nothing delivered every service answers a next state of the same kind. -/
theorem idle_service {s : State} (w : Half) (b : Byte) (hm : final s) (hr : s.radio = .idle)
    (hf : s.frameReady = false) :
    ∃ t, s.service w b = .next t ∧ final t ∧ t.radio = .idle ∧ t.frameReady = false
      ∧ t.inputs = s.inputs := by
  obtain ⟨h1, h2⟩ := hm
  have hc : s.fifoCase = .ignored := by simp [State.fifoCase, hr, RadioState.isTx]
  have hs : s.readStatus w b = s.bus (.status w) := by simp [State.readStatus, State.rxCase, hr]
  unfold State.service
  rw [hs, hc]
  split
  · rcases statusEvents_cases w b .ignored with h | h | h | h | h | h | h <;> rw [h] <;>
      simp [execAll, exec, execEvPor, execEvOvf, execEvWake, execEvNone, fifoEvent, execEvFifoIgn,
        State.bus, RadioState.isTx, final, hr, hf, h1, h2]
  · exact ⟨_, rfl, ⟨h1, h2⟩, hr, hf, rfl⟩

/-- The same of a step with no input waiting, whatever the free draws are. -/
theorem idle_step {s : State} (hm : final s) (hr : s.radio = .idle) (hf : s.frameReady = false)
    (hi : s.inputs = []) :
    ∃ t, step s = .next t ∧ final t ∧ t.radio = .idle ∧ t.frameReady = false ∧ t.inputs = [] := by
  obtain ⟨t, h, hm', hr', hf', hi'⟩ := idle_service (s := { s with draws := s.draws + 1 })
    (Config.freeStatus s.draws) (Config.freeFifo s.draws) hm hr hf
  refine ⟨t, ?_, hm', hr', hf', hi'.trans hi⟩
  rw [step_unmarked hm.1 hm.2, State.agentStep, hi]
  exact h

theorem test_hyp_IdleServicesKeepPermissionAndFrame :
    (booted.radio = .idle ∧ booted.frameReady = false ∧ booted.avail = true ∧ booted.inputs = []
      ∧ ∃ t, step booted = .next t)
    ∧ ∃ t, step { booted with inputs := [.irq 0xF000 0] } = .next t :=
  ⟨⟨rfl, rfl, rfl, rfl, (idle_step (by decide) rfl rfl rfl).imp fun _ h => h.1⟩, ⟨_, rfl⟩⟩

/-- The states of the run from `s` under a schedule. -/
def runFrom (sched : Schedule) (s : State) : Nat → State
  | 0 => s
  | n + 1 =>
    match step (offer (runFrom sched s n) (sched n)) with
    | .next t => t
    | .fault _ => runFrom sched s n
    | .refused _ => runFrom sched s n

/-- The last request of a transmission is still to come. -/
def endingState : State := sending .txDone

/-- A DEVICE that asks for a byte at every step. -/
def asking : Schedule := fun _ => .irq 0x8000 0

/-- A service in `Idle` offered by a schedule. -/
theorem idle_offer {s : State} (hm : final s) (hr : s.radio = .idle) (hf : s.frameReady = false) :
    ∃ t, step (offer s (.irq 0x8000 0)) = .next t ∧ final t ∧ t.radio = .idle ∧ t.frameReady = false := by
  obtain ⟨t, h, hm', hr', hf', -⟩ := idle_service (s := { s with inputs := [] }) 0x8000 0 hm hr hf
  refine ⟨t, ?_, hm', hr', hf'⟩
  rw [step_unmarked (s := offer s _) hm.1 hm.2]
  exact h

theorem endingRun_idle (n : Nat) :
    final (runFrom asking endingState (n + 1)) ∧ (runFrom asking endingState (n + 1)).radio = .idle
      ∧ (runFrom asking endingState (n + 1)).frameReady = false := by
  induction n with
  | zero => decide
  | succ n ih =>
    obtain ⟨h1, h2, h3⟩ := ih
    obtain ⟨t, ht, hm, hr, hf⟩ := idle_offer h1 h2 h3
    rw [runFrom, asking, ht]
    exact ⟨hm, hr, hf⟩

theorem endingState_inv : Inv endingState where
  latched := by intro h; cases h
  latchedTx := by intro h; cases h
  receiving := by intro h; cases h
  transmitting := fun _ => ⟨rfl, rfl⟩
  idle := by intro h; cases h
  unavailable := by intro h; cases h
  payload := by intro k h; cases h
  cursor := by decide
  notComplete := by intro h; cases h
  declared := by rintro (h | h | h) <;> cases h
  stored := by intro h; cases h
  searching := by intro h; cases h
  initialised := fun _ => rfl
  bufWf := by decide
  bufRange := by decide
  params := by decide
  agents := by
    intro x h w hx
    cases h

theorem test_hyp_TransmissionEndsUnderDeviceLiveness :
    specAgents asking ∧ isRun asking (runFrom asking endingState)
      ∧ Inv (runFrom asking endingState 0) ∧ devTxLive asking (runFrom asking endingState)
      ∧ (runFrom asking endingState 0).radio.isTx = true := by
  refine ⟨fun _ _ h => (by cases h), ?_, endingState_inv, ?_, rfl⟩
  · intro n
    cases n with
    | zero => rfl
    | succ n =>
      obtain ⟨h1, h2, h3⟩ := endingRun_idle n
      obtain ⟨t, ht, -⟩ := idle_offer h1 h2 h3
      rw [show runFrom asking endingState (n + 1 + 1) = t by rw [runFrom, asking, ht]]
      exact ht
  · intro n hn
    exact ⟨n, le_rfl, 0x8000, rfl, by decide⟩

theorem test_hyp_PollingAndStormAreRuns :
    (final base ∧ base.avail = false) ∧ (final booted ∧ booted.radio = .idle)
    ∧ (final latched ∧ latched.radio = .receiving ∧ latched.frameReady = true)
    ∧ (fifoDraw 0x8FFF ∧ (0x8FFF : Half).getLsbD 12 = false) := by decide

/-- The HOST fairness premise is met by a HOST that polls at every other step. -/
theorem test_hostFair :
    hostFair fun n => if n % 2 = 0 then encode .rdflags else .irq 0x8000 0 := by
  intro n
  refine ⟨2 * n, by omega, 0xC0000000, {}, ?_⟩
  exact if_pos (by omega)

/-! ### Whole frames -/

theorem defaultWf : Params.default.wf := by decide

theorem armedCrc : armed.crc = crc16Update 0xFFFF armed.ident.groupId := by decide

/-- The hypotheses of `TransmissionEmitsTheFrame` for one frame, sent from `booted`. -/
def SendHyps (hdr len : Byte) (data : List Byte) (draws : List (Half × Byte)) : Prop :=
  ∃ s : State, final s ∧ s.cfg.wf ∧ s.init = true ∧ s.avail = true ∧ s.radio = .idle
    ∧ data.length = len.toNat ∧ len.toNat ≤ s.cfg.maxPayload ∧ draws.length = len.toNat + 10
    ∧ (∀ x ∈ draws, fifoDraw x.1)
    ∧ s.inputs = encode (.txbegin hdr len data) :: (draws.map fun x => .irq x.1 x.2) ++ []

/-- The shortest and the longest frame of the default parameters. -/
theorem test_hyp_TransmissionEmitsTheFrame :
    SendHyps 0x85 0 [] (List.replicate 10 (0x9FFF, 0))
    ∧ SendHyps 0x07 66 (List.replicate 66 0xFF) (List.replicate 76 (0x8000, 0)) := by
  refine ⟨⟨{ booted with inputs := _ }, ⟨rfl, rfl⟩, defaultWf, rfl, rfl, rfl, rfl, by decide, rfl, ?_, rfl⟩,
    { booted with inputs := _ }, ⟨rfl, rfl⟩, defaultWf, rfl, rfl, rfl, rfl, by decide, rfl, ?_, rfl⟩ <;>
  · intro x hx
    rw [List.eq_of_mem_replicate hx]
    rfl

/-- The hypotheses of `ReceptionCompletesTheFrame`, from `armed`. -/
def ReceiveHyps (len : Byte) (bytes : List Byte) (words : List Half) : Prop :=
  ∃ s : State, final s ∧ s.cfg.wf ∧ s.init = true ∧ s.radio = .receiving ∧ s.frameReady = false
    ∧ s.cursor = 0 ∧ s.crc = crc16Update 0xFFFF s.ident.groupId
    ∧ len.toNat ≤ s.cfg.maxPayload ∧ bytes.length = len.toNat + 4 ∧ bytes[1]? = some len
    ∧ words.length = bytes.length ∧ (∀ w ∈ words, fifoDraw w)
    ∧ s.inputs = (List.zipWith (fun w b => Input.irq w b) words bytes) ++ []

theorem receiveHyps_of {len : Byte} {bytes : List Byte} {words : List Half} (h1 : len.toNat ≤ 66)
    (h2 : bytes.length = len.toNat + 4) (h3 : bytes[1]? = some len) (h4 : words.length = bytes.length)
    (h5 : ∀ w ∈ words, fifoDraw w) : ReceiveHyps len bytes words :=
  ⟨{ armed with inputs := List.zipWith (fun w b => Input.irq w b) words bytes ++ [] }, ⟨rfl, rfl⟩,
    defaultWf, rfl, rfl, rfl, rfl, armedCrc, h1, h2, h3, h4, h5, rfl⟩

/-- An empty frame, and the longest. -/
theorem test_hyp_ReceptionCompletesTheFrame :
    ReceiveHyps 0 [0x85, 0x00, 0x53, 0x68] (List.replicate 4 0x9FFF)
    ∧ ReceiveHyps 66 (0x07 :: 66 :: List.replicate 68 0) (List.replicate 70 0x8100) := by
  refine ⟨receiveHyps_of (by decide) (by decide) rfl (by simp) ?_,
    receiveHyps_of (by decide) (by simp) rfl (by simp) ?_⟩ <;>
  · intro x hx
    rw [List.eq_of_mem_replicate hx]
    rfl

/-- The hypotheses of `OverlongFrameIsRejected`, from `armed`. -/
def OverlongHyps (len : Byte) (bytes : List Byte) (words : List Half) : Prop :=
  ∃ s : State, final s ∧ s.cfg.wf ∧ s.init = true ∧ s.radio = .receiving ∧ s.frameReady = false
    ∧ s.cursor = 0 ∧ len.toNat > s.cfg.maxPayload ∧ bytes.length = s.cfg.bufCap
    ∧ bytes[1]? = some len ∧ words.length = bytes.length ∧ (∀ w ∈ words, fifoDraw w)
    ∧ s.inputs = (List.zipWith (fun w b => Input.irq w b) words bytes) ++ encode .pktrdy :: []

/-- A declared length of 67, one more than `MAX_PAYLOAD`, and of 255. -/
theorem test_hyp_OverlongFrameIsRejected :
    OverlongHyps 67 (0x07 :: 67 :: List.replicate 68 0) (List.replicate 70 0x8000)
    ∧ OverlongHyps 255 (0x07 :: 255 :: List.replicate 68 0) (List.replicate 70 0x8000) := by
  refine ⟨⟨{ armed with inputs := _ }, ⟨rfl, rfl⟩, defaultWf, rfl, rfl, rfl, rfl, by decide, rfl, rfl,
      rfl, ?_, rfl⟩,
    { armed with inputs := _ }, ⟨rfl, rfl⟩, defaultWf, rfl, rfl, rfl, rfl, by decide, rfl, rfl,
      rfl, ?_, rfl⟩ <;>
  · intro x hx
    rw [List.eq_of_mem_replicate hx]
    rfl

/-- The hypotheses of `TransmittedFrameIsDelivered`, with the parameters `p`. -/
def DeliveryHyps (p : Params) (hdr len : Byte) (data : List Byte) (words : List Half) : Prop :=
  ∃ s : State, s.cfg = p ∧ final s ∧ s.cfg.wf ∧ s.init = true ∧ s.radio = .receiving
    ∧ s.frameReady = false ∧ s.cursor = 0 ∧ s.crc = crc16Update 0xFFFF s.ident.groupId
    ∧ data.length = len.toNat ∧ len.toNat ≤ s.cfg.maxPayload
    ∧ (s.cfg.addrFilter = false ∨ hdrBcast s.cfg hdr = true ∨ hdrDst hdr = s.ident.nodeId)
    ∧ words.length = len.toNat + 4 ∧ (∀ w ∈ words, fifoDraw w)
    ∧ s.inputs = (List.zipWith (fun w b => Input.irq w b) words
        (hdr :: len :: data
          ++ crcTrailer (crcFold 0xFFFF (s.ident.groupId :: hdr :: len :: data))))
      ++ encode .pktrdy :: []

theorem deliveryHyps_of {p : Params} {hdr len : Byte} {data : List Byte} {words : List Half} (hp : p.wf)
    (h1 : data.length = len.toNat) (h2 : len.toNat ≤ p.maxPayload)
    (h3 : p.addrFilter = false ∨ hdrBcast p hdr = true ∨ hdrDst hdr = 7)
    (h4 : words.length = len.toNat + 4) (h5 : ∀ w ∈ words, fifoDraw w) :
    DeliveryHyps p hdr len data words :=
  ⟨{ armed with
      cfg := p
      inputs := (List.zipWith (fun w b => Input.irq w b) words
          (hdr :: len :: data
            ++ crcTrailer (crcFold 0xFFFF (armed.ident.groupId :: hdr :: len :: data))))
        ++ encode .pktrdy :: [] },
    rfl, ⟨rfl, rfl⟩, hp, rfl, rfl, rfl, rfl, armedCrc, h1, h2, h3, h4, h5, rfl⟩

/-- The three ways to be addressed: no filter, the broadcast bit, the own node. -/
theorem test_hyp_TransmittedFrameIsDelivered :
    DeliveryHyps { Params.default with addrFilter := false } 0x05 0 [] (List.replicate 4 0x8000)
    ∧ DeliveryHyps Params.default 0x85 0 [] (List.replicate 4 0x8000)
    ∧ DeliveryHyps Params.default 0x27 66 (List.replicate 66 0x33) (List.replicate 70 0x9000) := by
  refine ⟨deliveryHyps_of (by decide) rfl (by decide) (.inl rfl) (by simp) ?_,
    deliveryHyps_of (by decide) rfl (by decide) (.inr (.inl rfl)) (by simp) ?_,
    deliveryHyps_of (by decide) (by simp) (by decide) (.inr (.inr rfl)) (by simp) ?_⟩ <;>
  · intro x hx
    rw [List.eq_of_mem_replicate hx]
    rfl

end Sys2Proof.Tests
end

/-! PROOFS. The writers of `STATE` (R25): each handler that is not on the rule's list keeps it, whatever its
operands and in each of its branches. -/

namespace Sys2Proof.Machine

/-! ## The ends of a host operation: an answer and the two marks -/

theorem State.answer_keeps_radio {s t : State} {r : Half} (h : s.answer r = .next t) :
    t.radio = s.radio := by rw [State.answer_next_iff.mp h]

theorem State.raiseFault_keeps_radio {s t : State} {c : FaultCode} (h : s.raiseFault c = .next t) :
    t.radio = s.radio := by rw [State.raiseFault_next_iff.mp h]

theorem State.refuse_keeps_radio {s t : State} {c : RefusalCode} (h : s.refuse c = .next t) :
    t.radio = s.radio := by rw [State.refuse_next_iff.mp h]

theorem State.answerByte_keeps_radio {s t : State} {i : Nat} (h : s.answerByte i = .next t) :
    t.radio = s.radio :=
  (State.answer_keeps_radio h).trans (s.readBuf_radio i)

/-! ## The handlers with branches -/

/-- SLEEP (R272): the missing REINIT, the wake-up that is switched off, the timer that is set. -/
theorem execSleep_keeps_radio {ms : Word} {s t : State} (h : execSleep ms s = .next t) :
    t.radio = s.radio := by
  unfold execSleep at h
  split at h
  · exact State.raiseFault_keeps_radio h
  · split at h
    · exact (State.answer_keeps_radio h :)
    · exact (State.answer_keeps_radio h :)

/-- RDDATA (R140): the index out of range, the byte. -/
theorem execRddata_keeps_radio {idx : Byte} {s t : State} (h : execRddata idx s = .next t) :
    t.radio = s.radio := by
  unfold execRddata at h
  split at h
  · exact State.refuse_keeps_radio h
  · exact State.answerByte_keeps_radio h

/-- The receive service (R187) latches a complete frame without leaving `Receiving`. -/
theorem execEvFifoRx_keeps_radio {w : Half} {b : Byte} {s t : State}
    (h : execEvFifoRx w b s = .next t) : t.radio = s.radio := by
  unfold execEvFifoRx at h
  split at h
  · cases h
    split <;> simp
  · cases h

/-! ## The complete list -/

/-- Settles O46: of the 29 forms, each one off the list keeps `STATE`. -/
theorem radioStateWriters : Obligations.RadioStateWriters := by
  unfold Obligations.RadioStateWriters
  intro i s t h hne
  cases i with
  -- the writers
  | pktrdy | cantx | txbegin | reinit | evPor | evOvf | evFifoTx => simp
  -- host operations that only answer
  | woke | setbrk | rdrssi | rdflags => exact absurd (State.answer_keeps_radio h) hne
  | rdhdr | rdlen => exact absurd (State.answerByte_keeps_radio h) hne
  | rddata => exact absurd (execRddata_keeps_radio h) hne
  | sleep => exact absurd (execSleep_keeps_radio h) hne
  -- reserved opcodes
  | reservedOp0 | reservedOpD | reservedOpE | reservedOpF =>
    exact absurd (State.refuse_keeps_radio h) hne
  -- the other services
  | evFifoRx => exact absurd (execEvFifoRx_keeps_radio h) hne
  | evWake | evFifoIgn | evNone => cases h; exact absurd rfl hne
  -- device words: a bus operation writes the log and the mirrors
  | setMode | setRssi | txWrite | wakeTimer | devReset | status => cases h; exact absurd rfl hne

end Sys2Proof.Machine

/-! PROOFS. The host operations REINIT, PKTRDY, CANTX, TXBEGIN, SETBRK, RDRSSI and RDFLAGS (R131, R133,
R135 to R137, R141, R142): what their command words decode to, and what each case of their meaning leaves. -/

namespace Sys2Proof

/-! ## The formats with operands: reserved bits, then the data phase (R318) -/

theorem decodeHost_of_opReinit {h : Word} (hop : opField h = 0x1) (d : DataPhase) :
    decodeHost h d = decodeReinit h d := by simp [decodeHost, hop]

theorem decodeHost_of_opTxbegin {h : Word} (hop : opField h = 0x4) (d : DataPhase) :
    decodeHost h d = decodeTxbegin h d := by simp [decodeHost, hop]

theorem decodeHost_of_opSetbrk {h : Word} (hop : opField h = 0x7) (d : DataPhase) :
    decodeHost h d = decodeSetbrk h d := by simp [decodeHost, hop]

theorem decodeReinit_rsvField {h : Word} (hr : h.extractLsb' 26 2 ≠ 0 ∨ h.extractLsb' 5 3 ≠ 0)
    (d : DataPhase) : decodeReinit h d = .error .rsvField := if_pos hr

theorem decodeReinit_ok {h : Word} (hr : h.extractLsb' 26 2 = 0) (hr' : h.extractLsb' 5 3 = 0) :
    decodeReinit h {} = .ok (.reinit (h.extractLsb' 0 5) (h.extractLsb' 24 2) (h.extractLsb' 8 8)
      (h.extractLsb' 16 8)) := by simp [decodeReinit, hr, hr']

theorem decodeTxbegin_ok {h : Word} {d : DataPhase} (hr : h.extractLsb' 16 12 = 0) (hw : d.words = [])
    (hb : d.bytes.length = (h.extractLsb' 0 8).toNat) :
    decodeTxbegin h d = .ok (.txbegin (h.extractLsb' 8 8) (h.extractLsb' 0 8) d.bytes) := by
  simp [decodeTxbegin, hr, hw, hb]

theorem decodeTxbegin_dataPhase {h : Word} {d : DataPhase} (hr : h.extractLsb' 16 12 = 0)
    (hb : d.bytes.length ≠ (h.extractLsb' 0 8).toNat) : decodeTxbegin h d = .error .dataPhase := by
  rw [decodeTxbegin, if_neg (not_not_intro hr), if_pos (.inl hb)]

theorem decodeSetbrk_rsvField {h : Word} (hr : h.extractLsb' 1 27 ≠ 0) (d : DataPhase) :
    decodeSetbrk h d = .error .rsvField := if_pos hr

end Sys2Proof

namespace Sys2Proof.Machine

/-! ## REINIT (R131) -/

/-- A legal band: the identity is written, the engine restarts, and the device is reset. -/
theorem execReinit_of_band (node : BitVec 5) {band : BitVec 2} (group rate : Byte) (s : State)
    (hb : band ≠ 0) :
    execReinit node band group rate s = .next { s with
      ident := { nodeId := node.setWidth 8, groupId := group, band := band, dataRate := rate }
      init := true, avail := false, radio := .idle, frameReady := false, cursor := 0
      crc := crcSeed, rssiNode := .node 3, rxOn := false, txOn := false, wakeEn := false
      busLog := s.busLog ++ [.setMode false false false, .devReset]
      results := s.results ++ [0x0000] } := by
  rw [execReinit, if_neg hb]
  simp [State.answer, State.bus]

theorem execReinit_badBand (node : BitVec 5) (group rate : Byte) (s : State) :
    execReinit node 0 group rate s = s.refuse .badBand := if_pos rfl

/-- Settles O11: R131's two cases, and the format FR with its reserved bits clear and set. -/
theorem reinitSetsIdentityAndRestartsEngine : Obligations.ReinitSetsIdentityAndRestartsEngine := by
  unfold Obligations.ReinitSetsIdentityAndRestartsEngine
  refine ⟨fun node _ group rate s hb => execReinit_of_band node group rate s hb, execReinit_badBand,
    fun h hop hr hr' => ?_, fun h d hop hr => ?_⟩
  · rw [decodeHost_of_opReinit hop, decodeReinit_ok hr hr']
  · rw [decodeHost_of_opReinit hop, decodeReinit_rsvField hr]

/-! ## PKTRDY on a completed frame (R133) -/

theorem boolWord_eq_one_or_zero (v : Bool) : boolWord v = 0x0001 ∨ boolWord v = 0x0000 := by
  cases v <;> simp

theorem boolWord_eq_one_iff (v : Bool) : boolWord v = 0x0001 ↔ v = true := by
  cases v <;> simp

/-- `accept()` holds exactly when the length fits, the address matches and the checksum does or need not. -/
theorem acceptWith_iff (s : State) (h l : Byte) :
    acceptWith s h l = true ↔
      l.toNat ≤ s.cfg.maxPayload
      ∧ (s.cfg.addrFilter = false ∨ hdrBcast s.cfg h = true ∨ hdrDst h = s.ident.nodeId)
      ∧ (s.crcSnap = 0x0000 ∨ s.acceptBroken = true) := by
  simp [acceptWith, and_assoc, or_assoc]

theorem execPktrdy_of_frame {s : State} {h l : Byte} (hf : s.frameReady = true)
    (h0 : s.buf.read 0 = some h) (h1 : s.buf.read 1 = some l) :
    execPktrdy s = .next { s with
      frameReady := false, radio := .idle, results := s.results ++ [boolWord (acceptWith s h l)] } := by
  rw [execPktrdy, if_pos hf, State.accept_of_read h0 h1]
  rfl

/-- Settles O13: the answer is `accept()` as a word, and a Boolean's word is 0x0001 exactly when it holds. -/
theorem pktrdyEvaluatesTheFrame : Obligations.PktrdyEvaluatesTheFrame := by
  unfold Obligations.PktrdyEvaluatesTheFrame
  intro s h l hf h0 h1
  exact ⟨boolWord (acceptWith s h l), execPktrdy_of_frame hf h0 h1, boolWord_eq_one_or_zero _,
    (boolWord_eq_one_iff _).trans (acceptWith_iff s h l)⟩

/-! ## CANTX (R135) -/

theorem execCantx_of_available {s : State} (ha : s.avail = true)
    (hr : s.radio = .idle ∨ s.radio = .receiving) :
    execCantx s = .next { s with
      radio := .idle, frameReady := false, cursor := 0, rxOn := false, txOn := false
      busLog := s.busLog ++ [.setMode false false s.wakeEn]
      results := s.results ++ [0x0001] } := by
  rw [execCantx, if_pos ⟨ha, hr⟩]
  rfl

/-- A transmit state is neither `Idle` nor `Receiving` (R18). -/
theorem RadioState.isTx_eq_false_iff (r : RadioState) : r.isTx = false ↔ r = .idle ∨ r = .receiving := by
  cases r <;> simp [RadioState.isTx]

theorem execCantx_of_unavailable {s : State} (h : s.avail = false ∨ s.radio.isTx = true) :
    execCantx s = s.answer 0x0000 := by
  refine if_neg fun ⟨ha, hr⟩ => ?_
  have htx := s.radio.isTx_eq_false_iff.mpr hr
  simp [ha, htx] at h

/-- Settles O14: the guard of R135 holds in the first case and fails in the second. -/
theorem cantxClaimsTheChannel : Obligations.CantxClaimsTheChannel :=
  ⟨rfl, fun _ ha hr => execCantx_of_available ha hr, fun _ h => execCantx_of_unavailable h⟩

/-! ## TXBEGIN (R136) -/

theorem execTxbegin_of_idle (hdr : Byte) {len : Byte} (data : List Byte) {s : State}
    (hl : len.toNat ≤ s.cfg.maxPayload) (ha : s.avail = true) (hr : s.radio = .idle) :
    execTxbegin hdr len data s = .next { s with
      buf := s.buf.writeAll 0 (hdr :: len :: data)
      crc := crcSeed, radio := .txPreamble, rxOn := false, txOn := true
      busLog := s.busLog ++ [.setMode false true s.wakeEn, .txWrite s.cfg.preamble]
      results := s.results ++ [0x0000] } := by
  rw [execTxbegin, if_neg (Nat.not_lt.mpr hl), if_neg (by simp [ha, hr])]
  simp [State.answer, State.bus]

theorem execTxbegin_tooLong (hdr : Byte) {len : Byte} (data : List Byte) {s : State}
    (hl : len.toNat > s.cfg.maxPayload) : execTxbegin hdr len data s = s.answer 0x0001 := if_pos hl

theorem execTxbegin_misuse (hdr : Byte) {len : Byte} (data : List Byte) {s : State}
    (hl : len.toNat ≤ s.cfg.maxPayload) (h : s.avail = false ∨ s.radio ≠ .idle) :
    execTxbegin hdr len data s = s.raiseFault .misuseTx := by
  rw [execTxbegin, if_neg (Nat.not_lt.mpr hl), if_pos h]

/-- What a frame written from index 0 reads as: its header, its length byte, its payload, and behind it
what stood there. -/
theorem Memory.read_writeFrame (m : Memory) (hdr len : Byte) (data : List Byte) :
    (m.writeAll 0 (hdr :: len :: data)).read 0 = some hdr
    ∧ (m.writeAll 0 (hdr :: len :: data)).read 1 = some len
    ∧ (∀ i, i < data.length → (m.writeAll 0 (hdr :: len :: data)).read (2 + i) = data[i]?)
    ∧ (∀ a, 2 + data.length ≤ a → (m.writeAll 0 (hdr :: len :: data)).read a = m.read a) := by
  refine ⟨?_, ?_, fun i hi => ?_, fun a ha => ?_⟩ <;> rw [Memory.read_writeAll]
  · simp
  · simp
  · rw [if_pos (by simp only [List.length_cons]; omega), Nat.sub_zero, Nat.add_comm 2 i]
    rfl
  · exact if_neg (by simp only [List.length_cons]; omega)

/-- Settles O15: R136's three cases with the frame read back, and the format FT with the right and a wrong
number of data bytes. -/
theorem txbeginStoresTheFrameAndStarts : Obligations.TxbeginStoresTheFrameAndStarts := by
  unfold Obligations.TxbeginStoresTheFrameAndStarts
  refine ⟨fun hdr len data s hd hl ha hr => ?_, fun hdr len data s hl => execTxbegin_tooLong hdr data hl,
    fun hdr len data s hl h => execTxbegin_misuse hdr data hl h,
    fun h d hop hr hw => ⟨fun hb => ?_, fun hb => ?_⟩⟩
  · obtain ⟨hHdr, hLen, hData, hRest⟩ := s.buf.read_writeFrame hdr len data
    rw [hd] at hData hRest
    exact ⟨_, execTxbegin_of_idle hdr data hl ha hr, hHdr, hLen, hData, hRest, rfl⟩
  · rw [decodeHost_of_opTxbegin hop, decodeTxbegin_ok hr hw hb]
  · rw [decodeHost_of_opTxbegin hop, decodeTxbegin_dataPhase hr hb]

/-! ## SETBRK (R137) -/

/-- Settles O17: the meaning on every state, its two words, and the format FB with a reserved bit set. -/
theorem setbrkWritesTheSetting : Obligations.SetbrkWritesTheSetting := by
  unfold Obligations.SetbrkWritesTheSetting
  refine ⟨fun v s => rfl, fun v => ?_, fun h d hop hr => ?_⟩
  · cases v <;> rfl
  · rw [decodeHost_of_opSetbrk hop, decodeSetbrk_rsvField hr]

/-! ## RDRSSI (R141) -/

theorem execRdrssi_eq (s : State) :
    execRdrssi s = .next { s with results := s.results ++ [s.rssiNode.reading] } := rfl

/-- The table of R255 is the line `-106 + 6 j`, and the sign extension to a result word keeps it. -/
theorem RssiNode.reading_bucket_toInt (j : Fin 7) :
    (RssiNode.bucket j).reading.toInt = -106 + 6 * (j.val : Int) := by
  revert j
  decide

/-- Settles O21: the answer is the position's reading, 0 at a node and the table's entry at a bucket. -/
theorem rdrssiReturnsTheEstimate : Obligations.RdrssiReturnsTheEstimate := by
  unfold Obligations.RdrssiReturnsTheEstimate
  refine ⟨rfl, fun s n hn => ?_, fun s j hj => ⟨s.rssiNode.reading, rfl, ?_⟩⟩
  · exact (execRdrssi_eq s).trans (by rw [hn]; rfl)
  · rw [hj, RssiNode.reading_bucket_toInt]

/-! ## RDFLAGS (R142) -/

/-- The bits of the flags word below the tag. -/
theorem State.flagsWord_flags (s : State) :
    s.flagsWord.getLsbD 0 = s.avail ∧ s.flagsWord.getLsbD 1 = s.init
    ∧ s.flagsWord.getLsbD 2 = s.frameReady ∧ s.flagsWord.getLsbD 3 = s.acceptBroken
    ∧ s.flagsWord.getLsbD 4 = s.rxOn ∧ s.flagsWord.getLsbD 5 = s.txOn
    ∧ s.flagsWord.getLsbD 6 = s.wakeEn ∧ (s.flagsWord.getLsbD 7 = true ↔ s.crcSnap = 0x0000) := by
  simp only [State.flagsWord, BitVec.getLsbD_append]
  simp

/-- Bits 11 to 8 of the flags word are the tag. -/
theorem State.flagsWord_tag (s : State) : s.flagsWord.extractLsb' 8 4 = s.radio.tag := by
  refine BitVec.eq_of_getLsbD_eq fun i hi => ?_
  simp only [State.flagsWord, BitVec.getLsbD_extractLsb', BitVec.getLsbD_append]
  interval_cases i <;> simp

/-- Bits 15 to 12 of the flags word are zero. -/
theorem State.flagsWord_high (s : State) : s.flagsWord.extractLsb' 12 4 = 0 := by
  refine BitVec.eq_of_getLsbD_eq fun i hi => ?_
  simp only [State.flagsWord, BitVec.getLsbD_extractLsb', BitVec.getLsbD_append]
  interval_cases i <;> simp

/-- Outside `TxPayload` the offset is 0 (R24). -/
theorem RadioState.txoff_eq_zero {r : RadioState} (h : ∀ k, r ≠ .txPayload k) : r.txoff = 0 := by
  cases r with
  | txPayload k => exact absurd rfl (h k)
  | _ => rfl

/-- Settles O22: the answer is the flags word, bit by bit, and R24's tag and offset of each state. -/
theorem rdflagsReportsEveryFlag : Obligations.RdflagsReportsEveryFlag := by
  unfold Obligations.RdflagsReportsEveryFlag
  refine ⟨rfl, fun s => ⟨s.flagsWord, rfl, ?_⟩⟩
  obtain ⟨h0, h1, h2, h3, h4, h5, h6, h7⟩ := s.flagsWord_flags
  exact ⟨h0, h1, h2, h3, h4, h5, h6, h7, s.flagsWord_tag, s.flagsWord_high,
    congrArg RadioState.tag, congrArg RadioState.tag, congrArg RadioState.tag, congrArg RadioState.tag,
    congrArg RadioState.tag, fun _ hr => ⟨congrArg RadioState.tag hr, congrArg RadioState.txoff hr⟩,
    congrArg RadioState.tag, congrArg RadioState.tag, congrArg RadioState.tag, congrArg RadioState.tag,
    congrArg RadioState.tag, RadioState.txoff_eq_zero⟩

end Sys2Proof.Machine

/-! PROOFS. The status events (R181 to R199): the events a status word reports, what each handler leaves,
and how the receive and the transmit service run over a frame. -/

namespace Sys2Proof

/-! ## The events of a status word (R182): POR alone; OVF before FIFO; WAKE after them -/

theorem statusEvents_of_por {w : Half} (h14 : w.getLsbD 14 = true) (b : Byte) (c : FifoCase) :
    statusEvents w b c = [.evPor w] := if_pos h14

theorem statusEvents_of_ovf {w : Half} (h14 : w.getLsbD 14 = false) (h13 : w.getLsbD 13 = true)
    (b : Byte) (c : FifoCase) :
    statusEvents w b c = .evOvf w :: (if w.getLsbD 12 then [.evWake w] else []) := by
  rw [statusEvents, if_neg (ne_true_of_eq_false h14), if_pos h13]

theorem statusEvents_of_fifo {w : Half} (h14 : w.getLsbD 14 = false) (h13 : w.getLsbD 13 = false)
    (h15 : w.getLsbD 15 = true) (b : Byte) (c : FifoCase) :
    statusEvents w b c = fifoEvent w b c :: (if w.getLsbD 12 then [.evWake w] else []) := by
  rw [statusEvents, if_neg (ne_true_of_eq_false h14), if_neg (ne_true_of_eq_false h13), if_pos h15]

theorem statusEvents_of_rest {w : Half} (h14 : w.getLsbD 14 = false) (h13 : w.getLsbD 13 = false)
    (h15 : w.getLsbD 15 = false) (b : Byte) (c : FifoCase) :
    statusEvents w b c = if w.getLsbD 12 then [.evWake w] else [.evNone w] := by
  rw [statusEvents, if_neg (ne_true_of_eq_false h14), if_neg (ne_true_of_eq_false h13),
    if_neg (ne_true_of_eq_false h15)]

/-- Settles O2: the four cases of R182, the FIFO event being that of the case of R186. -/
theorem statusWordEventsInOrder : Obligations.StatusWordEventsInOrder := by
  unfold Obligations.StatusWordEventsInOrder
  refine fun w b c => ⟨fun h14 => statusEvents_of_por h14 b c,
    fun h14 h13 => statusEvents_of_ovf h14 h13 b c, fun h14 h13 h15 => ?_,
    fun h14 h13 h15 => statusEvents_of_rest h14 h13 h15 b c⟩
  rw [statusEvents_of_fifo h14 h13 h15]
  cases c <;> rfl

/-- What triggers each event of a service. -/
theorem mem_statusEvents_iff (i : Instr) (w : Half) (b : Byte) (c : FifoCase) :
    i ∈ statusEvents w b c ↔
      (i = .evPor w ∧ w.getLsbD 14 = true)
      ∨ (i = .evOvf w ∧ w.getLsbD 13 = true ∧ w.getLsbD 14 = false)
      ∨ (i = fifoEvent w b c ∧ w.getLsbD 15 = true ∧ w.getLsbD 13 = false ∧ w.getLsbD 14 = false)
      ∨ (i = .evWake w ∧ w.getLsbD 12 = true ∧ w.getLsbD 14 = false)
      ∨ (i = .evNone w ∧ w.getLsbD 12 = false ∧ w.getLsbD 15 = false ∧ w.getLsbD 13 = false
          ∧ w.getLsbD 14 = false) := by
  cases h14 : w.getLsbD 14 with
  | true => simp [statusEvents_of_por h14]
  | false =>
    cases h13 : w.getLsbD 13 with
    | true => simp [statusEvents_of_ovf h14 h13, and_comm]
    | false =>
      cases h15 : w.getLsbD 15 with
      | true => simp [statusEvents_of_fifo h14 h13 h15, and_comm]
      | false =>
        rw [statusEvents_of_rest h14 h13 h15]
        cases w.getLsbD 12 <;> simp

/-- A FIFO event alone at the top of the status word, bit by bit. -/
theorem fifoTop_iff (w : Half) : w.extractLsb' 13 3 = 0b100 ↔
    w.getLsbD 15 = true ∧ w.getLsbD 13 = false ∧ w.getLsbD 14 = false := by
  have hbit (i : Nat) (hi : i < 3) : (w.extractLsb' 13 3).getLsbD i = w.getLsbD (13 + i) := by
    rw [BitVec.getLsbD_extractLsb', decide_eq_true hi, Bool.true_and]
  rw [← hbit 2 (by decide), ← hbit 0 (by decide), ← hbit 1 (by decide)]
  generalize w.extractLsb' 13 3 = top
  revert top
  decide

/-- The event of a FIFO case is a receive exactly in the receive case. -/
theorem fifoEvent_eq_evFifoRx_iff (w : Half) (b : Byte) (c : FifoCase) :
    fifoEvent w b c = .evFifoRx w b ↔ c = .rx := by
  cases c <;> simp [fifoEvent]

/-- A FIFO event is none of the other events. -/
theorem fifoEvent_ne (w : Half) (b : Byte) (c : FifoCase) :
    fifoEvent w b c ≠ .evPor w ∧ fifoEvent w b c ≠ .evOvf w ∧ fifoEvent w b c ≠ .evWake w := by
  cases c <;> simp [fifoEvent]

theorem evPor_mem_statusEvents_iff (w : Half) (b : Byte) (c : FifoCase) :
    .evPor w ∈ statusEvents w b c ↔ w.getLsbD 14 = true := by
  obtain ⟨hPor, -, -⟩ := fifoEvent_ne w b c
  simp [mem_statusEvents_iff, hPor.symm]

theorem evOvf_mem_statusEvents_iff (w : Half) (b : Byte) (c : FifoCase) :
    .evOvf w ∈ statusEvents w b c ↔ w.getLsbD 13 = true ∧ w.getLsbD 14 = false := by
  obtain ⟨-, hOvf, -⟩ := fifoEvent_ne w b c
  simp [mem_statusEvents_iff, hOvf.symm]

theorem evWake_mem_statusEvents_iff (w : Half) (b : Byte) (c : FifoCase) :
    .evWake w ∈ statusEvents w b c ↔ w.getLsbD 12 = true ∧ w.getLsbD 14 = false := by
  obtain ⟨-, -, hWake⟩ := fifoEvent_ne w b c
  simp [mem_statusEvents_iff, hWake.symm]

theorem evFifoRx_mem_statusEvents_iff (w : Half) (b : Byte) (c : FifoCase) :
    .evFifoRx w b ∈ statusEvents w b c ↔ w.extractLsb' 13 3 = 0b100 ∧ c = .rx := by
  rw [fifoTop_iff, ← fifoEvent_eq_evFifoRx_iff w b, eq_comm (a := fifoEvent w b c)]
  simp [mem_statusEvents_iff, and_comm]

end Sys2Proof

namespace Sys2Proof.Machine

/-! ## The case of a FIFO event (R186) -/

theorem State.fifoCase_eq_rx_iff (s : State) :
    s.fifoCase = .rx ↔ s.radio = .receiving ∧ s.frameReady = false := by
  by_cases h : s.radio = .receiving ∧ s.frameReady = false
  · simp [State.fifoCase, h]
  · rw [State.fifoCase, if_neg h]
    split <;> simp [h]

/-- In `Idle`, or in `Receiving` with a completed frame, a FIFO event is ignored. -/
theorem State.fifoCase_of_ignored {s : State}
    (h : s.radio = .idle ∨ (s.radio = .receiving ∧ s.frameReady = true)) :
    s.fifoCase = .ignored := by
  obtain hr | ⟨hr, hf⟩ := h
  · simp [State.fifoCase, hr, RadioState.isTx]
  · simp [State.fifoCase, hr, hf, RadioState.isTx]

/-! ## POR, WAKE (R183, R184) -/

/-- Settles O24: the trigger, and the two bus operations before the radio state is cleared. -/
theorem porConfiguresAndMakesAvailable : Obligations.PorConfiguresAndMakesAvailable := by
  unfold Obligations.PorConfiguresAndMakesAvailable
  refine ⟨evPor_mem_statusEvents_iff, fun w s => ?_⟩
  simp [exec, execEvPor, State.bus]

/-- Settles O25: the trigger, and the one `SET_MODE` that turns the wake source off. -/
theorem wakeEventSetsTheLatchOnce : Obligations.WakeEventSetsTheLatchOnce :=
  ⟨evWake_mem_statusEvents_iff, fun _ _ => rfl⟩

/-! ## OVF (R185) -/

theorem execEvOvf_of_receiving {s : State} (hr : s.radio = .receiving) (hf : s.frameReady = false) :
    execEvOvf s = .next (s.bus (.setMode false false s.wakeEn)).armReceive := if_pos ⟨hr, hf⟩

theorem execEvOvf_of_isTx {s : State} (h : s.radio.isTx = true) :
    execEvOvf s = .next { s.bus (.setMode false false s.wakeEn) with radio := .idle } := by
  have hr : s.radio ≠ .receiving := fun hr => by simp [hr, RadioState.isTx] at h
  rw [execEvOvf, if_neg (fun hc => hr hc.1), if_pos h]

theorem execEvOvf_of_ignored {s : State}
    (h : s.radio = .idle ∨ (s.radio = .receiving ∧ s.frameReady = true)) : execEvOvf s = .next s := by
  obtain hr | ⟨hr, hf⟩ := h
  · simp [execEvOvf, hr, RadioState.isTx]
  · simp [execEvOvf, hr, hf, RadioState.isTx]

/-- The receive arm (R132) as one update. -/
theorem State.armReceive_eq (s : State) : s.armReceive = { s with
    cursor := 0, crc := crc16Update crcSeed s.ident.groupId, rssiNode := .node 3
    radio := .receiving, rxOn := true, txOn := false
    busLog := s.busLog ++ [.setRssi s.cfg.rssiCode[3], .setMode true false s.wakeEn] } := by
  simp [State.armReceive, State.bus]

/-- Settles O26: the trigger, and the handler's three cases. -/
theorem overflowRearmsOrAborts : Obligations.OverflowRearmsOrAborts := by
  unfold Obligations.OverflowRearmsOrAborts
  refine ⟨evOvf_mem_statusEvents_iff, fun w s hr hf => ?_, fun w s h => execEvOvf_of_isTx h,
    fun w s h => execEvOvf_of_ignored h⟩
  refine (execEvOvf_of_receiving hr hf).trans ?_
  simp [State.armReceive_eq, State.bus, crcSeed]

/-! ## The transmit chain (R189 to R198): one rule per state -/

theorem execEvFifoTx_of_txPreamble {s : State} (h : s.radio = .txPreamble) :
    execEvFifoTx s = .next (s.emit s.cfg.preamble .txSync1) := by rw [execEvFifoTx, h]

theorem execEvFifoTx_of_txSync1 {s : State} (h : s.radio = .txSync1) :
    execEvFifoTx s = .next (s.emit s.cfg.sync1 .txSync2) := by rw [execEvFifoTx, h]

theorem execEvFifoTx_of_txSync2 {s : State} (h : s.radio = .txSync2) :
    execEvFifoTx s = .next s.txSync2Step := by rw [execEvFifoTx, h]

theorem execEvFifoTx_of_txPayload {s : State} {k : BitVec 8} (h : s.radio = .txPayload k) :
    execEvFifoTx s = s.txPayloadStep k := by rw [execEvFifoTx, h]

theorem execEvFifoTx_of_txCrcHigh {s : State} (h : s.radio = .txCrcHigh) :
    execEvFifoTx s = .next (s.emit (s.crc.extractLsb' 0 8) .txCrcLow) := by rw [execEvFifoTx, h]

theorem execEvFifoTx_of_txCrcLow {s : State} (h : s.radio = .txCrcLow) :
    execEvFifoTx s = .next (s.emit (s.crc.extractLsb' 8 8) .txTail1) := by rw [execEvFifoTx, h]

theorem execEvFifoTx_of_txTail1 {s : State} (h : s.radio = .txTail1) :
    execEvFifoTx s = .next (s.emit s.cfg.tail .txTail2) := by rw [execEvFifoTx, h]

theorem execEvFifoTx_of_txTail2 {s : State} (h : s.radio = .txTail2) :
    execEvFifoTx s = .next (s.emit s.cfg.tail .txDone) := by rw [execEvFifoTx, h]

theorem execEvFifoTx_of_txDone {s : State} (h : s.radio = .txDone) :
    execEvFifoTx s = .next s.txDoneStep := by rw [execEvFifoTx, h]

/-- Settles O28: R190, R191 and R194 to R198, one after the other. -/
theorem transmitChainEmitsAndAdvances : Obligations.TransmitChainEmitsAndAdvances := by
  unfold Obligations.TransmitChainEmitsAndAdvances
  exact fun w s => ⟨execEvFifoTx_of_txPreamble, execEvFifoTx_of_txSync1, execEvFifoTx_of_txCrcHigh,
    execEvFifoTx_of_txCrcLow, execEvFifoTx_of_txTail1, execEvFifoTx_of_txTail2, execEvFifoTx_of_txDone⟩

/-! ## TxSync2 and TxPayload (R192, R193): the offset as a signed number -/

/-- The first transmit position of a legal length (R7, R192). -/
theorem txStart_toInt {l : Byte} (h : l.toNat ≤ 126) : (txStart l).toInt = -(2 + (l.toNat : Int)) := by
  have hpos : (2 + l).toNat = 2 + l.toNat := BitVec.toNat_add_of_lt (by simp; omega)
  rw [txStart, BitVec.toInt_eq_toNat_cond, BitVec.toNat_neg, hpos]
  split <;> omega

/-- The frame-buffer index of a transmit position at or behind the frame's first byte (R193). -/
theorem txIndex_eq {l : Byte} {k : BitVec 8} {i : Nat} (hl : l.toNat ≤ 126) (hk : k.toInt ≤ -1)
    (hi : (i : Int) = 2 + l.toNat + k.toInt) : txIndex l k = i := by
  have hneg : k.toInt = k.toNat - 256 := by
    rw [BitVec.toInt_eq_toNat_cond] at hk ⊢
    split at hk <;> omega
  have htwo : (2 : Byte).toNat = 2 := rfl
  rw [txIndex, BitVec.toNat_add, BitVec.toNat_add, htwo]
  omega

theorem txOffset_last_iff (k : BitVec 8) : k + 1 = 0 ↔ k.toInt = -1 := by
  revert k
  decide

theorem State.txSync2Step_of_read {s : State} {l : Byte} (h : s.buf.read 1 = some l) :
    s.txSync2Step = { s.emit s.ident.groupId (.txPayload (txStart l)) with
      crc := crc16Update crcSeed s.ident.groupId } := by
  rw [State.txSync2Step, State.readBuf_of_read h]

/-- Inside a stored frame the byte at the transmit position is emitted and fed. -/
theorem State.txPayloadStep_of_read {s : State} {l b : Byte} {k : BitVec 8}
    (h1 : s.buf.read 1 = some l) (hi : txIndex l k < s.cfg.bufCap)
    (hb : s.buf.read (txIndex l k) = some b) :
    s.txPayloadStep k = .next { s.emit b (if k + 1 = 0 then .txCrcHigh else .txPayload (k + 1)) with
      crc := crc16Update s.crc b } := by
  simp [State.txPayloadStep, State.readBuf_of_read h1, State.readBuf_of_read hb, hi]

/-- Settles O29: the first offset is in range of its signed byte, and each later one names a byte of the
frame, below `BUF_CAP`. -/
theorem transmitPayloadRunsOverTheFrame : Obligations.TransmitPayloadRunsOverTheFrame := by
  unfold Obligations.TransmitPayloadRunsOverTheFrame
  refine ⟨fun w l s hr h1 hl => ⟨txStart l, txStart_toInt hl, ?_⟩,
    fun w l b k i s hr h1 hl hp _ hk hi hb => ?_⟩
  · refine (execEvFifoTx_of_txSync2 hr).trans ?_
    rw [State.txSync2Step_of_read h1]
    rfl
  · obtain ⟨-, hmax⟩ := hp
    obtain rfl := txIndex_eq (hl.trans hmax) hk hi
    have hcap : txIndex l k < s.cfg.bufCap := by unfold Params.bufCap; omega
    refine (execEvFifoTx_of_txPayload hr).trans ?_
    simp only [State.txPayloadStep_of_read h1 hcap hb, txOffset_last_iff]
    rfl

/-! ## The receive service (R187, R188, R253) -/

/-- `complete(c)` on integers (R188). -/
theorem completeWith_iff (p : Params) (l c : Byte) : completeWith p l c = true ↔
    (2 ≤ c.toNat ∧ c.toNat > l.toNat + 3) ∨ c.toNat = p.bufCap := by
  simp [completeWith]

/-- Before the second byte the length byte does not count (R188). -/
theorem completeWith_of_lt_two {p : Params} {c : Byte} (h : c.toNat < 2) (l l' : Byte) :
    completeWith p l c = completeWith p l' c := by
  simp [completeWith, Nat.not_le.mpr h]

/-- Completion where the length byte, once it counts, has been received: its value, and the state is
kept. -/
theorem State.frameComplete_of_length {s : State} {l : Byte}
    (h : 2 ≤ s.cursor.toNat → s.buf.read 1 = some l) :
    s.frameComplete = (completeWith s.cfg l s.cursor, s) := by
  by_cases hc : 2 ≤ s.cursor.toNat
  · rw [State.frameComplete_of_read (h hc), if_pos hc]
  · rw [State.frameComplete, if_neg hc, completeWith_of_lt_two (Nat.not_le.mp hc)]

/-- One search step as an update: where it ends, and the entries it logs. -/
theorem State.rssiStep_entries (s : State) (above : Bool) :
    ∃ (r : RssiNode) (es : List BusEntry),
      s.rssiStep above = { s with rssiNode := r, busLog := s.busLog ++ es }
      ∧ ((∃ j, s.rssiNode = .bucket j) → r = s.rssiNode ∧ es = [])
      ∧ (∀ n, s.rssiNode = .node n → r = rssiNext n above
          ∧ (∀ m : Fin 6, r = .node m → es = [.setRssi s.cfg.rssiCode[m]])
          ∧ (∀ j, r = .bucket j → es = [])) := by
  rcases s.rssiStep_cases above with ⟨j, hs, h⟩ | ⟨n, m, hs, hn, h⟩ | ⟨n, j, hs, hn, h⟩
  · exact ⟨s.rssiNode, [], by simp [h], by simp, by simp [hs]⟩
  · exact ⟨.node m, [.setRssi s.cfg.rssiCode[m]], h, by simp [hs], by simp [hs, hn]⟩
  · exact ⟨.bucket j, [], by simp [h], by simp [hs], by simp [hs, hn]⟩

/-- The receive service with the cursor inside the buffer: the search step, the byte, and the end of the
frame exactly where the predicate holds. -/
theorem execEvFifoRx_of_length {w : Half} {b l : Byte} {s : State} (hc : s.cursor.toNat < s.cfg.bufCap)
    (hl : 2 ≤ (s.cursor + 1).toNat → (s.buf.write s.cursor.toNat b).read 1 = some l) :
    execEvFifoRx w b s = .next
      (if completeWith s.cfg l (s.cursor + 1) = true
        then ((s.rssiStep (rssiAbove s.cfg w)).storeByte b).finishFrame
        else (s.rssiStep (rssiAbove s.cfg w)).storeByte b) := by
  rw [execEvFifoRx, if_pos hc, State.frameComplete_of_length (l := l) (by simpa using hl)]
  simp

/-- Inside the buffer of legal parameters the cursor does not wrap (R7, R8). -/
theorem cursor_succ_toNat {s : State} (hp : s.cfg.wf) (hc : s.cursor.toNat < s.cfg.bufCap) :
    (s.cursor + 1).toNat = s.cursor.toNat + 1 := by
  obtain ⟨-, hmax⟩ := hp
  unfold Params.bufCap at hc
  exact BitVec.toNat_add_of_lt (by simp; omega)

/-- Settles O27: the search step and the stored byte give the update, the completion predicate its end. -/
theorem receiveServiceStoresAndFeeds : Obligations.ReceiveServiceStoresAndFeeds := by
  unfold Obligations.ReceiveServiceStoresAndFeeds
  refine ⟨fun w b s => ?_, fun w b l s hp hc hl => ?_⟩
  · rw [evFifoRx_mem_statusEvents_iff, State.fifoCase_eq_rx_iff]
  · have hcur := cursor_succ_toNat hp hc
    have hlen : 2 ≤ (s.cursor + 1).toNat → (s.buf.write s.cursor.toNat b).read 1 = some l := by
      intro h
      rw [Memory.read_write, ← hl (by omega)]
      simp only [eq_comm]
    obtain ⟨r, es, hstep, hbucket, hnode⟩ := s.rssiStep_entries (rssiAbove s.cfg w)
    have hread (a : Nat) := s.buf.read_write s.cursor.toNat a b
    have hexec := execEvFifoRx_of_length (w := w) hc hlen
    rw [hstep] at hexec
    rw [← hcur, ← completeWith_iff]
    by_cases hdone : completeWith s.cfg l (s.cursor + 1) = true
    · rw [if_pos hdone] at hexec
      exact ⟨_, es, hexec, hread, rfl, rfl, hbucket, hnode, fun _ => rfl, fun h => absurd hdone h⟩
    · rw [if_neg hdone] at hexec
      exact ⟨_, es, hexec, hread, rfl, rfl, hbucket, hnode, fun h => absurd h hdone, fun _ => rfl⟩

/-! ## Ignored events (R199, R181) -/

theorem State.readStatus_of_ignored {s : State}
    (h : s.radio = .idle ∨ (s.radio = .receiving ∧ s.frameReady = true)) (w : Half) (b : Byte) :
    s.readStatus w b = s.bus (.status w) := by
  obtain hr | ⟨-, hf⟩ := h
  · simp [State.readStatus, State.rxCase, hr]
  · simp [State.readStatus, State.rxCase, hf]

/-- Settles O30: the handlers answer their state, and such a service has the one event EV_FIFO_IGN and no
`FIFO_READ`. -/
theorem ignoredEventsChangeNothing : Obligations.IgnoredEventsChangeNothing := by
  unfold Obligations.IgnoredEventsChangeNothing
  refine ⟨fun w s => ⟨rfl, rfl⟩, fun w b s hs htop hwake => ?_⟩
  obtain ⟨h15, h13, h14⟩ := (fifoTop_iff w).mp htop
  have hcase := State.fifoCase_of_ignored hs
  obtain ⟨-, h⟩ | ⟨-, h⟩ := s.service_cases w b
  · exact h
  · rw [h, State.readStatus_of_ignored hs, hcase, statusEvents_of_fifo h14 h13 h15, hwake]
    rfl

end Sys2Proof.Machine

/-! PROOFS. The one-byte update of the checksum (R230): its rounds as an iteration, and the case where the low
byte is cleared first, so that every round is a plain shift. -/

namespace Sys2Proof.Machine

/-! ## The rounds -/

/-- The model's rounds are the iterates of one round, so the next round can also be taken last. -/
theorem crcRounds_eq_iterate (n : Nat) (c : Half) : crcRounds n c = crcRound^[n] c := by
  induction n generalizing c with
  | zero => rfl
  | succ n ih => exact ih (crcRound c)

theorem crcRounds_succ (n : Nat) (c : Half) : crcRounds (n + 1) c = crcRound (crcRounds n c) := by
  simp only [crcRounds_eq_iterate, Function.iterate_succ_apply']

/-! ## Feeding an accumulator its own low byte -/

theorem crcRound_of_low_clear {c : Half} (h : c.getLsbD 0 = false) : crcRound c = c >>> 1 := by
  rw [crcRound, h]
  exact if_neg Bool.false_ne_true

/-- While the bits shifted out are zero, the polynomial is never fed in. -/
theorem crcRounds_of_low_clear {n : Nat} {c : Half} (h : ∀ i < n, c.getLsbD i = false) :
    crcRounds n c = c >>> n := by
  induction n with
  | zero => simp [crcRounds]
  | succ n ih =>
    have hbit : (c >>> n).getLsbD 0 = false := by
      rw [BitVec.getLsbD_ushiftRight]
      exact h n n.lt_succ_self
    rw [crcRounds_succ, ih fun i hi => h i (Nat.lt_succ_of_lt hi), crcRound_of_low_clear hbit,
      ← BitVec.shiftRight_add]

/-- The value before the rounds: the low byte cleared, the high byte kept. -/
theorem getLsbD_xor_lowByte (c : Half) (i : Nat) :
    (c ^^^ (c.extractLsb' 0 8).setWidth 16).getLsbD i = (decide (8 ≤ i) && c.getLsbD i) := by
  by_cases hi : 8 ≤ i
  · simp [hi]
  · have hlt : i < 8 := Nat.not_le.mp hi
    have hwide : i < 16 := by omega
    simp [hlt, hwide, hi]

theorem crc16Update_lowByte (c : Half) :
    crc16Update c (c.extractLsb' 0 8) = (c.extractLsb' 8 8).setWidth 16 := by
  have hlow : ∀ i < 8, (c ^^^ (c.extractLsb' 0 8).setWidth 16).getLsbD i = false := fun i hi => by
    rw [getLsbD_xor_lowByte, decide_eq_false (Nat.not_le.mpr hi), Bool.false_and]
  rw [crc16Update, crcRounds_of_low_clear hlow]
  refine BitVec.eq_of_getLsbD_eq fun i hi => ?_
  rw [BitVec.getLsbD_ushiftRight, getLsbD_xor_lowByte]
  by_cases h8 : i < 8
  · simp [h8, hi]
  · have hout : 16 ≤ 8 + i := by omega
    simp [h8, BitVec.getLsbD_of_ge c (8 + i) hout]

/-- Settles O33: the sequence is `crcRounds · (crc ^^^ b)`, whose eighth value is the update by definition;
the low-byte law is `crc16Update_lowByte`, and the four stated values are computed. -/
theorem crcUpdateIsEightRounds : Obligations.CrcUpdateIsEightRounds := by
  unfold Obligations.CrcUpdateIsEightRounds
  refine ⟨fun crc b => ?_, crc16Update_lowByte, by decide⟩
  exact ⟨fun n => crcRounds n (crc ^^^ b.setWidth 16), rfl, fun n => crcRounds_succ n _, rfl⟩

end Sys2Proof.Machine

/-! PROOFS. The wake timer (R270 to R273): what the encoder's loop ends with, and what SLEEP and WOKE leave in
each of their cases. -/

namespace Sys2Proof

/-! ## SLEEP's format (R95) -/

theorem decodeHost_of_opSleep {h : Word} (hop : opField h = 0x5) (d : DataPhase) :
    decodeHost h d = decodeSleep h d := by simp [decodeHost, hop]

theorem decodeSleep_ok {h : Word} (hr : h.extractLsb' 0 28 = 0) (ms : Word) :
    decodeSleep h { words := [ms] } = .ok (.sleep ms) := if_neg (not_not_intro hr)

theorem decodeSleep_dataPhase {h : Word} {d : DataPhase} (hr : h.extractLsb' 0 28 = 0)
    (hw : d.words = []) : decodeSleep h d = .error .dataPhase := by
  obtain ⟨bytes, words⟩ := d
  obtain rfl : words = [] := hw
  simp [decodeSleep, hr]

end Sys2Proof

namespace Sys2Proof.Machine

/-! ## The encoder (R270, R271) -/

/-- With turns enough for the request, the loop ends after some `k` shifts, `k` the fewest after which the
request fits in a byte. -/
theorem wakeLoop_shifts {n : Nat} {d : Word} (hd : d.toNat < 2 ^ (8 + n)) (e : BitVec 5) :
    ∃ k ≤ n, wakeLoop n d e = ((d >>> k).extractLsb' 0 8, e + BitVec.ofNat 5 k)
      ∧ d.toNat / 2 ^ k < 256 ∧ (k = 0 ∨ 128 ≤ d.toNat / 2 ^ k) := by
  induction n generalizing d e with
  | zero => exact ⟨0, le_rfl, by simp [wakeLoop], by simpa using hd, .inl rfl⟩
  | succ n ih =>
    by_cases hbig : d.toNat > 255
    · have hhalf : (d >>> 1).toNat = d.toNat / 2 := by simp [Nat.shiftRight_eq_div_pow]
      obtain ⟨k, hk, hloop, hfits, hleast⟩ :=
        ih (hhalf ▸ Nat.div_lt_of_lt_mul (by rwa [← pow_succ'])) (e + 1)
      have hdiv : d.toNat / 2 ^ (k + 1) = (d >>> 1).toNat / 2 ^ k := by
        rw [hhalf, Nat.div_div_eq_div_mul, pow_succ']
      have hshift : d >>> 1 >>> k = d >>> (k + 1) := by rw [← BitVec.shiftRight_add, Nat.add_comm]
      have hexp : e + 1 + BitVec.ofNat 5 k = e + BitVec.ofNat 5 (k + 1) := by
        rw [BitVec.add_assoc, Nat.add_comm k, BitVec.ofNat_add]
        rfl
      refine ⟨k + 1, Nat.succ_le_succ hk, ?_, hdiv ▸ hfits, .inr ?_⟩
      · rw [wakeLoop, if_pos hbig, hloop, hshift, hexp]
      · rw [hdiv]
        obtain rfl | hleast := hleast
        · rw [hhalf, pow_zero, Nat.div_one]
          omega
        · exact hleast
    · have hfits : d.toNat / 2 ^ 0 < 256 := by
        rw [pow_zero]
        omega
      exact ⟨0, Nat.zero_le _, by simp [wakeLoop, hbig], hfits, .inl rfl⟩

/-- The encoding on integers: the mantissa is the request shifted down by the exponent, and no smaller
exponent would do. -/
theorem wakeEncode_toNat {d : Word} {m : Byte} {e : BitVec 5} (h : wakeEncode d = (m, e)) :
    e.toNat ≤ 24 ∧ m.toNat = d.toNat / 2 ^ e.toNat ∧ (e.toNat = 0 ∨ 128 ≤ m.toNat) := by
  obtain ⟨k, hk, hloop, hfits, hleast⟩ := wakeLoop_shifts (n := 24) d.isLt 0
  obtain ⟨rfl, rfl⟩ := Prod.mk.inj (h.symm.trans hloop)
  have he : (0 + BitVec.ofNat 5 k).toNat = k := by
    simp [Nat.mod_eq_of_lt (hk.trans_lt (by decide : 24 < 32))]
  have hm : ((d >>> k).extractLsb' 0 8).toNat = d.toNat / 2 ^ k := by
    simp [Nat.shiftRight_eq_div_pow, Nat.mod_eq_of_lt hfits]
  rw [he, hm]
  exact ⟨hk, rfl, hleast⟩

/-- Settles O37: dividing by `2 ^ e` and multiplying back drops the low `e` bits; a delay that fits in a byte
cannot have a mantissa of 128 after a shift, and one that does not fit is shifted. -/
theorem wakeEncodeRoundsDown : Obligations.WakeEncodeRoundsDown := by
  unfold Obligations.WakeEncodeRoundsDown
  intro d m e _ h
  obtain ⟨he, hm, hleast⟩ := wakeEncode_toNat h
  refine ⟨?_, ?_, ?_, he, fun hsmall => ?_, fun hbig => ?_⟩
  · rw [hm, Nat.div_mul_self_eq_mod_sub_self]
  · rw [hm]
    exact Nat.div_mul_le_self _ _
  · rw [hm, Nat.mul_comm]
    exact Nat.lt_mul_div_succ _ (Nat.two_pow_pos _)
  · have he0 : e.toNat = 0 := by
      by_contra hne
      have hhalf : m.toNat ≤ d.toNat / 2 :=
        hm ▸ Nat.div_le_div_left (Nat.le_pow (Nat.pos_of_ne_zero hne)) Nat.two_pos
      omega
    exact ⟨BitVec.eq_of_toNat_eq he0, by rw [hm, he0, pow_zero, Nat.div_one]⟩
  · have he0 : e.toNat ≠ 0 := fun he0 => by
      rw [he0, pow_zero, Nat.div_one] at hm
      omega
    exact ⟨hleast.resolve_left he0, Nat.pos_of_ne_zero he0⟩

/-! ## SLEEP (R272) -/

theorem execSleep_of_not_init {s : State} (hi : s.init = false) (ms : Word) :
    execSleep ms s = s.raiseFault .notInit := if_pos hi

/-- Delay 0: the one `SET_MODE` turns the wake source off, and the mirrors of receiver and transmitter keep
their values. -/
theorem execSleep_zero {s : State} (hi : s.init = true) :
    execSleep 0 s = .next { s with
      wakeEn := false, busLog := s.busLog ++ [.setMode s.rxOn s.txOn false]
      results := s.results ++ [0x0000] } := by
  rw [execSleep, if_neg (ne_false_of_eq_true hi), if_pos rfl]
  rfl

theorem execSleep_of_ne_zero {s : State} {ms : Word} (hi : s.init = true) (hms : ms ≠ 0) :
    execSleep ms s = .next { s with
      wakeEn := true, wakeM := (wakeEncode ms).1, wakeE := (wakeEncode ms).2
      busLog := s.busLog ++ [.setMode s.rxOn s.txOn false,
        .wakeTimer (wakeEncode ms).1 (wakeEncode ms).2, .setMode s.rxOn s.txOn true]
      results := s.results ++ [0x0000] } := by
  rw [execSleep, if_neg (ne_false_of_eq_true hi), if_neg hms]
  simp [State.answer, State.bus]

/-- Settles O18: the format FS with and without its data word, and R272's three cases. -/
theorem sleepArmsTheWakeTimer : Obligations.SleepArmsTheWakeTimer := by
  unfold Obligations.SleepArmsTheWakeTimer
  refine ⟨fun ms => ?_, fun d hw => ?_, fun ms s hi => execSleep_of_not_init hi ms,
    fun s hi => execSleep_zero hi, fun ms s hi hms => execSleep_of_ne_zero hi hms⟩
  · rw [decodeHost_of_opSleep (by decide), decodeSleep_ok (by decide)]
  · rw [decodeHost_of_opSleep (by decide), decodeSleep_dataPhase (by decide) hw]

/-! ## WOKE (R273) -/

theorem execWoke_eq (s : State) : execWoke s = .next { s with
    woke := false, results := s.results ++ [boolWord s.woke] } := rfl

/-- Settles O19: the answer is the latch as a word; a latch that is clear is left as it was. -/
theorem wokeReadsAndClears : Obligations.WokeReadsAndClears := by
  unfold Obligations.WokeReadsAndClears
  refine ⟨rfl, fun s => ⟨fun hw => (execWoke_eq s).trans ?_, fun hw => (execWoke_eq s).trans ?_⟩⟩
  · rw [hw, boolWord_true]
  · rw [hw, boolWord_false, ← hw]

end Sys2Proof.Machine

/-! PROOFS. What an instruction can do (R130 to R142, R183 to R199): one inversion of `exec` with every guard,
from which the writers of each register (R21 to R40, R64) and the whole-state invariants are read off. -/

namespace Sys2Proof.Machine

/-! ## The rules of the transmit chain -/

/-- The rules R190 to R197: the byte emitted, the next state and the checksum after it. A byte of the frame
that was written is the one emitted. -/
inductive TxRule (s : State) : Byte → RadioState → Half → Prop
  | preamble (hr : s.radio = .txPreamble) : TxRule s s.cfg.preamble .txSync1 s.crc
  | sync1 (hr : s.radio = .txSync1) : TxRule s s.cfg.sync1 .txSync2 s.crc
  | sync2 (hr : s.radio = .txSync2) :
    TxRule s s.ident.groupId (.txPayload (txStart (s.bufByte 1))) (crc16Update crcSeed s.ident.groupId)
  | payload (k : BitVec 8) (b : Byte) (hr : s.radio = .txPayload k)
      (hi : txIndex (s.bufByte 1) k < s.cfg.bufCap)
      (hb : ∀ x, s.buf.read (txIndex (s.bufByte 1) k) = some x → b = x) :
    TxRule s b (if k + 1 = 0 then .txCrcHigh else .txPayload (k + 1)) (crc16Update s.crc b)
  | crcHigh (hr : s.radio = .txCrcHigh) : TxRule s (s.crc.extractLsb' 0 8) .txCrcLow s.crc
  | crcLow (hr : s.radio = .txCrcLow) : TxRule s (s.crc.extractLsb' 8 8) .txTail1 s.crc
  | tail1 (hr : s.radio = .txTail1) : TxRule s s.cfg.tail .txTail2 s.crc
  | tail2 (hr : s.radio = .txTail2) : TxRule s s.cfg.tail .txDone s.crc

/-! ## The effects of the instructions -/

/-- The state after the search step and the stored byte of a receive service (R187). -/
abbrev State.receiveByte (s : State) (w : Half) (b : Byte) : State :=
  (s.rssiStep (rssiAbove s.cfg w)).storeByte b

/-- Everything an instruction can leave behind, with the guard of each case. The marks, an answer alone and
no change at all stand for every instruction that has such a case. -/
inductive Effect (s : State) : Instr → State → Prop
  | fault {i : Instr} (c : FaultCode) : Effect s i { s with faultMark := some c }
  | refuse {i : Instr} (c : RefusalCode) : Effect s i { s with refusedMark := some c }
  | answer {i : Instr} (n : Nat) (r : Half) (hi : ∃ h d, encode i = .host h d) :
    Effect s i { s with draws := n, results := s.results ++ [r] }
  | keep {i : Instr} : Effect s i s
  | reinit {node : BitVec 5} {band : BitVec 2} {group rate : Byte} (id : Ident) :
    Effect s (.reinit node band group rate) { s with
      ident := id, init := true, avail := false, radio := .idle, frameReady := false, cursor := 0
      crc := crcSeed, rssiNode := .node 3, rxOn := false, txOn := false, wakeEn := false
      busLog := s.busLog ++ [.setMode false false false, .devReset], results := s.results ++ [0x0000] }
  | deliver (n : Nat) (r : Half) (hf : s.frameReady = true) :
    Effect s .pktrdy { s with
      frameReady := false, radio := .idle, draws := n, results := s.results ++ [r] }
  | arm (hf : s.frameReady = false) (hr : s.radio = .idle) (ha : s.avail = true) :
    Effect s .pktrdy { s.armReceive with results := s.results ++ [0x0000] }
  | claim (ha : s.avail = true) (hr : s.radio = .idle ∨ s.radio = .receiving) :
    Effect s .cantx { s with
      radio := .idle, frameReady := false, cursor := 0, rxOn := false, txOn := false
      busLog := s.busLog ++ [.setMode false false s.wakeEn], results := s.results ++ [0x0001] }
  | start {hdr len : Byte} {data : List Byte} (hl : len.toNat ≤ s.cfg.maxPayload)
      (ha : s.avail = true) (hr : s.radio = .idle) :
    Effect s (.txbegin hdr len data) { s with
      buf := s.buf.writeAll 0 (hdr :: len :: data)
      crc := crcSeed, radio := .txPreamble, rxOn := false, txOn := true
      busLog := s.busLog ++ [.setMode false true s.wakeEn, .txWrite s.cfg.preamble]
      results := s.results ++ [0x0000] }
  | wakeOff {ms : Word} : Effect s (.sleep ms) { s with
      wakeEn := false, busLog := s.busLog ++ [.setMode s.rxOn s.txOn false]
      results := s.results ++ [0x0000] }
  | wakeArm {ms : Word} (m : Byte) (e : BitVec 5) (hms : ms ≠ 0) : Effect s (.sleep ms) { s with
      wakeEn := true, wakeM := m, wakeE := e
      busLog := s.busLog
        ++ [.setMode s.rxOn s.txOn false, .wakeTimer m e, .setMode s.rxOn s.txOn true]
      results := s.results ++ [0x0000] }
  | woke : Effect s .woke { s with woke := false, results := s.results ++ [boolWord s.woke] }
  | setbrk {v : Bool} : Effect s (.setbrk v) { s with
      acceptBroken := v, results := s.results ++ [0x0000] }
  | por {w : Half} : Effect s (.evPor w) { s with
      avail := true, radio := .idle, frameReady := false, cursor := 0
      rxOn := false, txOn := false, wakeEn := false
      busLog := s.busLog ++ [.config s.ident, .setMode false false false] }
  | wake {w : Half} : Effect s (.evWake w) { s with
      woke := true, wakeEn := false, busLog := s.busLog ++ [.setMode s.rxOn s.txOn false] }
  | rearm {w : Half} (hr : s.radio = .receiving) (hf : s.frameReady = false) :
    Effect s (.evOvf w) (s.bus (.setMode false false s.wakeEn)).armReceive
  | abort {w : Half} (hr : s.radio.isTx = true) :
    Effect s (.evOvf w) { s.bus (.setMode false false s.wakeEn) with radio := .idle }
  | receive {w : Half} {b : Byte} (n : Nat) (hc : s.cursor.toNat < s.cfg.bufCap)
      (hd : (s.receiveByte w b).frameComplete.1 = false) :
    Effect s (.evFifoRx w b) { s.receiveByte w b with draws := n }
  | complete {w : Half} {b : Byte} (n : Nat) (hc : s.cursor.toNat < s.cfg.bufCap)
      (hd : (s.receiveByte w b).frameComplete.1 = true) :
    Effect s (.evFifoRx w b) { s.receiveByte w b with draws := n }.finishFrame
  | emit {w : Half} {b : Byte} {r : RadioState} {c : Half} (n : Nat) (h : TxRule s b r c) :
    Effect s (.evFifoTx w) { s.emit b r with draws := n, crc := c }
  | txDone {w : Half} (hr : s.radio = .txDone) : Effect s (.evFifoTx w) s.txDoneStep
  | device {i : Instr} (e : BusEntry) (hi : ∃ v, encode i = .bus v) : Effect s i (s.bus e)
  | status (v : Half) : Effect s .status { s.bus (.status v) with draws := s.draws + 1 }

/-! ## One inversion per handler with branches -/

theorem execReinit_effect {node : BitVec 5} {band : BitVec 2} {group rate : Byte} {s t : State}
    (h : execReinit node band group rate s = .next t) : Effect s (.reinit node band group rate) t := by
  by_cases hb : band = 0
  · subst hb
    rw [execReinit_badBand, State.refuse_next_iff] at h
    exact h ▸ .refuse _
  · rw [execReinit_of_band node group rate s hb] at h
    cases h
    exact .reinit _

theorem execPktrdy_effect {s t : State} (h : execPktrdy s = .next t) : Effect s .pktrdy t := by
  unfold execPktrdy at h
  split at h
  · cases h
    exact .deliver _ _ ‹_›
  · rename_i hf
    split at h
    · rename_i hg
      cases h
      exact .arm (Bool.not_eq_true _ ▸ hf) hg.1 hg.2
    · cases h
      exact .answer _ _ ⟨_, _, rfl⟩

theorem execCantx_effect {s t : State} (h : execCantx s = .next t) : Effect s .cantx t := by
  by_cases hg : s.avail = true ∧ (s.radio = .idle ∨ s.radio = .receiving)
  · rw [execCantx_of_available hg.1 hg.2] at h
    cases h
    exact .claim hg.1 hg.2
  · rw [execCantx, if_neg hg] at h
    cases h
    exact .answer _ _ ⟨_, _, rfl⟩

theorem execTxbegin_effect {hdr len : Byte} {data : List Byte} {s t : State}
    (h : execTxbegin hdr len data s = .next t) : Effect s (.txbegin hdr len data) t := by
  by_cases hl : len.toNat ≤ s.cfg.maxPayload
  · by_cases hg : s.avail = false ∨ s.radio ≠ .idle
    · rw [execTxbegin_misuse hdr data hl hg] at h
      cases h
      exact .fault _
    · have ha : s.avail = true := by simpa using mt Or.inl hg
      have hr : s.radio = .idle := by simpa using mt Or.inr hg
      rw [execTxbegin_of_idle hdr data hl ha hr] at h
      cases h
      exact .start hl ha hr
  · rw [execTxbegin_tooLong hdr data (Nat.not_le.mp hl)] at h
    cases h
    exact .answer _ _ ⟨_, _, rfl⟩

theorem execSleep_effect {ms : Word} {s t : State} (h : execSleep ms s = .next t) :
    Effect s (.sleep ms) t := by
  cases hi : s.init with
  | false =>
    rw [execSleep_of_not_init hi] at h
    cases h
    exact .fault _
  | true =>
    by_cases hms : ms = 0
    · subst hms
      rw [execSleep_zero hi] at h
      cases h
      exact .wakeOff
    · rw [execSleep_of_ne_zero hi hms] at h
      cases h
      exact .wakeArm _ _ hms

theorem State.answerByte_effect {i : Instr} {a : Nat} {s t : State} (hi : ∃ h d, encode i = .host h d)
    (h : s.answerByte a = .next t) : Effect s i t := by
  cases h
  exact .answer _ _ hi

theorem execRddata_effect {idx : Byte} {s t : State} (h : execRddata idx s = .next t) :
    Effect s (.rddata idx) t := by
  unfold execRddata at h
  split at h
  · cases h
    exact .refuse _
  · exact State.answerByte_effect ⟨_, _, rfl⟩ h

theorem execEvPor_effect {w : Half} {s t : State} (h : execEvPor s = .next t) :
    Effect s (.evPor w) t := by
  obtain ⟨-, hpor⟩ := porConfiguresAndMakesAvailable
  cases h.symm.trans (hpor w s)
  exact .por

theorem execEvOvf_effect {w : Half} {s t : State} (h : execEvOvf s = .next t) :
    Effect s (.evOvf w) t := by
  unfold execEvOvf at h
  split at h
  · rename_i hg
    cases h
    exact .rearm hg.1 hg.2
  · split at h
    · cases h
      exact .abort ‹_›
    · cases h
      exact .keep

theorem execEvFifoRx_of_cursor {s : State} (hc : s.cursor.toNat < s.cfg.bufCap) (w : Half) (b : Byte) :
    execEvFifoRx w b s = .next (if (s.receiveByte w b).frameComplete.1 = true
      then (s.receiveByte w b).frameComplete.2.finishFrame
      else (s.receiveByte w b).frameComplete.2) := if_pos hc

theorem execEvFifoRx_of_bufCap_le {s : State} (hc : s.cfg.bufCap ≤ s.cursor.toNat) (w : Half) (b : Byte) :
    execEvFifoRx w b s = .fault (.bufIndex s.cursor.toNat) := if_neg (Nat.not_lt.mpr hc)

theorem execEvFifoRx_effect {w : Half} {b : Byte} {s t : State} (h : execEvFifoRx w b s = .next t) :
    Effect s (.evFifoRx w b) t := by
  by_cases hc : s.cursor.toNat < s.cfg.bufCap
  · rw [execEvFifoRx_of_cursor hc] at h
    cases hd : (s.receiveByte w b).frameComplete.1 with
    | false =>
      rw [hd, if_neg Bool.false_ne_true, State.frameComplete_frame] at h
      cases h
      exact .receive _ hc hd
    | true =>
      rw [hd, if_pos rfl, State.frameComplete_frame] at h
      cases h
      exact .complete _ hc hd
  · cases h.symm.trans (execEvFifoRx_of_bufCap_le (Nat.not_lt.mp hc) w b)

theorem State.txPayloadStep_rule {k : BitVec 8} {s t : State} (hr : s.radio = .txPayload k)
    (h : s.txPayloadStep k = .next t) :
    ∃ n b r c, TxRule s b r c ∧ t = { s.emit b r with draws := n, crc := c } := by
  obtain ⟨b, u, hi, hbu, hs⟩ | ⟨-, hs⟩ := s.txPayloadStep_cases k
  · obtain ⟨rfl, rfl⟩ := Prod.mk.inj hbu
    cases h.symm.trans hs
    exact ⟨_, _, _, _, .payload k _ hr hi fun x hx => State.bufByte_of_read (s := (s.readBuf 1).2) hx, rfl⟩
  · cases h.symm.trans hs

/-- A transmit request applies a rule of the chain, ends it, or finds no transmission (R189 to R198). -/
theorem execEvFifoTx_rule {s t : State} (h : execEvFifoTx s = .next t) :
    (∃ n b r c, TxRule s b r c ∧ t = { s.emit b r with draws := n, crc := c })
    ∨ (s.radio = .txDone ∧ t = s.txDoneStep) ∨ (s.radio.isTx = false ∧ t = s) := by
  cases hr : s.radio with
  | txPreamble =>
    cases h.symm.trans (execEvFifoTx_of_txPreamble hr)
    exact .inl ⟨_, _, _, _, .preamble hr, rfl⟩
  | txSync1 =>
    cases h.symm.trans (execEvFifoTx_of_txSync1 hr)
    exact .inl ⟨_, _, _, _, .sync1 hr, rfl⟩
  | txSync2 =>
    cases h.symm.trans (execEvFifoTx_of_txSync2 hr)
    exact .inl ⟨_, _, _, _, .sync2 hr, rfl⟩
  | txPayload k => exact .inl (State.txPayloadStep_rule hr ((execEvFifoTx_of_txPayload hr).symm.trans h))
  | txCrcHigh =>
    cases h.symm.trans (execEvFifoTx_of_txCrcHigh hr)
    exact .inl ⟨_, _, _, _, .crcHigh hr, rfl⟩
  | txCrcLow =>
    cases h.symm.trans (execEvFifoTx_of_txCrcLow hr)
    exact .inl ⟨_, _, _, _, .crcLow hr, rfl⟩
  | txTail1 =>
    cases h.symm.trans (execEvFifoTx_of_txTail1 hr)
    exact .inl ⟨_, _, _, _, .tail1 hr, rfl⟩
  | txTail2 =>
    cases h.symm.trans (execEvFifoTx_of_txTail2 hr)
    exact .inl ⟨_, _, _, _, .tail2 hr, rfl⟩
  | txDone =>
    cases h.symm.trans (execEvFifoTx_of_txDone hr)
    exact .inr (.inl ⟨rfl, rfl⟩)
  | idle | receiving =>
    rw [execEvFifoTx, hr] at h
    cases h
    exact .inr (.inr ⟨rfl, rfl⟩)

theorem execEvFifoTx_effect {w : Half} {s t : State} (h : execEvFifoTx s = .next t) :
    Effect s (.evFifoTx w) t := by
  obtain ⟨n, b, r, c, hrule, rfl⟩ | ⟨hr, rfl⟩ | ⟨-, rfl⟩ := execEvFifoTx_rule h
  · exact .emit n hrule
  · exact .txDone hr
  · exact .keep

/-- An instruction that answers a next state has one of the effects. -/
theorem exec_effect {i : Instr} {s t : State} (h : exec i s = .next t) : Effect s i t := by
  cases i with
  | reinit => exact execReinit_effect h
  | pktrdy => exact execPktrdy_effect h
  | cantx => exact execCantx_effect h
  | txbegin => exact execTxbegin_effect h
  | sleep => exact execSleep_effect h
  | woke => cases h; exact .woke
  | setbrk => cases h; exact .setbrk
  | rdhdr | rdlen => exact State.answerByte_effect ⟨_, _, rfl⟩ h
  | rddata => exact execRddata_effect h
  | rdrssi | rdflags => cases h; exact .answer _ _ ⟨_, _, rfl⟩
  | reservedOp0 | reservedOpD | reservedOpE | reservedOpF => cases h; exact .refuse _
  | evPor => exact execEvPor_effect h
  | evWake => cases h; exact .wake
  | evOvf => exact execEvOvf_effect h
  | evFifoRx => exact execEvFifoRx_effect h
  | evFifoTx => exact execEvFifoTx_effect h
  | evFifoIgn | evNone => cases h; exact .keep
  | setMode | setRssi | txWrite | wakeTimer | devReset => cases h; exact .device _ ⟨_, rfl⟩
  | status => cases h; exact .status _

/-! ## Marks, buffer and registers: who writes what (R21 to R40, R64, R312, R313) -/

/-- Settles O10: `fault` and `refuse` are the only effects on a mark. -/
theorem markIsTheOnlyChange : Obligations.MarkIsTheOnlyChange := by
  unfold Obligations.MarkIsTheOnlyChange
  intro i s t h
  cases exec_effect h with
  | fault => exact ⟨fun _ => rfl, fun hne => absurd rfl hne⟩
  | refuse => exact ⟨fun hne => absurd rfl hne, fun _ => rfl⟩
  | receive | complete => simp
  | _ => exact ⟨fun hne => absurd rfl hne, fun hne => absurd rfl hne⟩

/-- Settles O45: a frame is written below `2 + data.length`, a received byte at the cursor. -/
theorem bufferWriters : Obligations.BufferWriters := by
  unfold Obligations.BufferWriters
  intro i s t a h ha
  cases exec_effect h with
  | @start _ _ data =>
    have hge : 2 + data.length ≤ a := Nat.not_lt.mp ha
    obtain ⟨-, -, -, hrest⟩ := s.buf.read_writeFrame _ _ data
    exact hrest a hge
  | receive | complete => simpa using s.buf.read_write_other _ ha
  | _ => rfl

/-- Settles O47: of the effects only REINIT's writes these fields. -/
theorem identityWrittenOnlyByReinit : Obligations.IdentityWrittenOnlyByReinit := by
  unfold Obligations.IdentityWrittenOnlyByReinit
  intro i s t h
  cases exec_effect h with
  | reinit => exact ⟨fun _ => ⟨⟨_, _, _, _, rfl⟩, rfl⟩, rfl, rfl⟩
  | receive | complete => simp
  | _ => exact ⟨fun hne => absurd hne (by simp), rfl, rfl⟩

/-- Settles O48: each latch by the effects that write it. -/
theorem latchWriters : Obligations.LatchWriters := by
  unfold Obligations.LatchWriters
  intro i s t h
  cases exec_effect h with
  | receive | complete => simp
  | _ => simp_all

/-- The search position moves only from a node (R253, R257). -/
theorem State.rssiStep_rssiNode_ne {s : State} {above : Bool}
    (h : (s.rssiStep above).rssiNode ≠ s.rssiNode) : ∃ n, s.rssiNode = .node n := by
  cases hn : s.rssiNode with
  | node n => exact ⟨n, rfl⟩
  | bucket j => exact absurd (congrArg State.rssiNode (State.rssiStep_bucket hn above)) h

/-- The transmit chain feeds the checksum in two of its states only. -/
theorem TxRule.fed {s : State} {b : Byte} {r : RadioState} {c : Half} (h : TxRule s b r c)
    (hc : c ≠ s.crc) : s.radio = .txSync2 ∨ ∃ k, s.radio = .txPayload k := by
  cases h with
  | sync2 hr => exact .inl hr
  | payload k _ hr => exact .inr ⟨k, hr⟩
  | _ => exact absurd rfl hc

/-- Settles O49: each register by the effects that write it. -/
theorem engineRegisterWriters : Obligations.EngineRegisterWriters := by
  unfold Obligations.EngineRegisterWriters
  intro i s t h
  cases exec_effect h with
  | receive | complete => simpa using State.rssiStep_rssiNode_ne
  | emit n hrule => simpa using hrule.fed
  | _ => simp_all

end Sys2Proof.Machine

/-! PROOFS. The encodings of the three ports (R11, R90 to R104): decode after encode, encode after decode, and
the words and wire bits of the bus operations. -/

namespace Sys2Proof

/-! ## A device word with embedded operand bits (R11) -/

/-- A bit of the embedded operand: some set bit of the operand has it in its image. -/
theorem orFields_getLsbD_iff (v : Nat → Bool) (ms : List Half) (i j : Nat) :
    (orFields v ms i).getLsbD j = true ↔
      ∃ (k : Nat) (hk : k < ms.length), v (i + k) = true ∧ ms[k].getLsbD j = true := by
  induction ms generalizing i with
  | nil => simp
  | cons m rest ih =>
    rw [orFields_cons_getLsbD, Bool.or_eq_true, Bool.and_eq_true, ih]
    constructor
    · rintro (h | ⟨k, hk, hv, hm⟩)
      · exact ⟨0, Nat.succ_pos _, h⟩
      · exact ⟨k + 1, Nat.succ_lt_succ hk, by rwa [← Nat.add_assoc, Nat.add_right_comm], hm⟩
    · rintro ⟨_ | k, hk, hv, hm⟩
      · exact .inl ⟨hv, hm⟩
      · exact .inr ⟨k, Nat.lt_of_succ_lt_succ hk, by rwa [Nat.add_right_comm, Nat.add_assoc], hm⟩

/-- A bit of a device word: the opcode has it, or the image of a set operand bit. -/
theorem WordForm.word_getLsbD {n : Nat} (f : WordForm n) (v : BitVec n) (j : Nat) :
    (f.word v).getLsbD j = (f.op.getLsbD j
      || decide (∃ k : Fin n, v.getLsbD k = true ∧ (f.bits[k]).getLsbD j = true)) := by
  have hiff := orFields_getLsbD_iff v.getLsbD f.bits.toList 0 j
  rw [WordForm.word, BitVec.getLsbD_or, Bool.eq_iff_iff, Bool.or_eq_true, Bool.or_eq_true, hiff,
    decide_eq_true_iff, Fin.exists_iff]
  refine or_congr_right (exists_congr fun k => ?_)
  rw [Nat.zero_add]
  simp only [Vector.length_toList, Vector.getElem_toList, Fin.getElem_fin]

/-- A word that lacks a bit of the opcode has no operand. -/
theorem WordForm.read_eq_none {n : Nat} {f : WordForm n} {w : Half} {j : Nat}
    (hop : f.op.getLsbD j = true) (hw : w.getLsbD j = false) : f.read w = none := by
  cases h : f.read w with
  | none => rfl
  | some v =>
    have hbit : (f.word v).getLsbD j = true := by rw [word_getLsbD, hop, Bool.true_or]
    rw [WordForm.read_some h, hw] at hbit
    cases hbit

@[simp] theorem fieldsNat_cons (w m : Half) (rest : List Half) :
    fieldsNat w (m :: rest) = (if w &&& m = m then 1 else 0) + 2 * fieldsNat w rest := rfl

/-- The operand is read back from a word, bit by bit. -/
theorem fieldsNat_testBit (w : Half) (ms : List Half) (i : Nat) :
    (fieldsNat w ms).testBit i = ms[i]?.any fun m => decide (w &&& m = m) := by
  induction ms generalizing i with
  | nil => simp [fieldsNat]
  | cons m rest ih =>
    cases i with
    | zero => by_cases h : w &&& m = m <;> simp [h]
    | succ i =>
      have hhalf : fieldsNat w (m :: rest) / 2 = fieldsNat w rest := by
        rw [fieldsNat_cons]
        split <;> omega
      rw [Nat.testBit_succ, hhalf, ih, List.getElem?_cons_succ]

/-- Each operand bit has a bit of the word of its own. -/
def WordForm.Separated {n : Nat} (f : WordForm n) : Prop :=
  ∀ i : Fin n, ∃ j : Fin 16, (f.bits[i]).getLsbD j = true ∧ f.op.getLsbD j = false
    ∧ ∀ k : Fin n, k ≠ i → (f.bits[k]).getLsbD j = false

/-- Where the images are separated, an image is set in a word exactly when its operand bit is. -/
theorem WordForm.word_and_image_iff {n : Nat} {f : WordForm n} (hf : f.Separated) (v : BitVec n)
    (i : Fin n) : f.word v &&& f.bits[i] = f.bits[i] ↔ v.getLsbD i = true := by
  constructor
  · intro h
    obtain ⟨j, hj, hop, hother⟩ := hf i
    have hbit : (f.word v).getLsbD j = true := by
      have hand := congrArg (BitVec.getLsbD · j) h
      rw [BitVec.getLsbD_and, hj, Bool.and_true] at hand
      exact hand
    rw [word_getLsbD, hop, Bool.false_or, decide_eq_true_iff] at hbit
    obtain ⟨k, hv, hk⟩ := hbit
    by_cases hki : k = i
    · exact hki ▸ hv
    · rw [hother k hki] at hk
      cases hk
  · intro hv
    refine BitVec.eq_of_getLsbD_eq fun j _ => ?_
    rw [BitVec.getLsbD_and, word_getLsbD]
    cases hj : (f.bits[i]).getLsbD j with
    | false => exact Bool.and_false _
    | true => simpa using .inr ⟨i, hv, hj⟩

/-- What was written is what is read, where the images are separated. -/
theorem WordForm.read_word {n : Nat} {f : WordForm n} (hf : f.Separated) (v : BitVec n) :
    f.read (f.word v) = some v := by
  have hv : BitVec.ofNat n (fieldsNat (f.word v) f.bits.toList) = v := by
    refine BitVec.eq_of_getLsbD_eq fun i hi => ?_
    have himg := WordForm.word_and_image_iff hf v ⟨i, hi⟩
    rw [Fin.getElem_fin] at himg
    rw [BitVec.getLsbD_ofNat, fieldsNat_testBit, Bool.eq_iff_iff, ← himg]
    simp [hi]
  rw [WordForm.read, hv, if_pos rfl]

theorem txw_default_separated : DeviceWords.default.txw.Separated := by
  unfold WordForm.Separated
  decide

theorem wake_default_separated : DeviceWords.default.wake.Separated := by
  unfold WordForm.Separated
  decide

/-! ## The device port: decode after encode, encode after decode (R103, R104) -/

/-- The opcode's bits of a wake-timer word and of a transmit word. -/
theorem wakeWord_default_top (m : Byte) (e : BitVec 5) :
    (wakeWord .default m e).getLsbD 15 = true := by
  rw [wakeWord, WordForm.word_getLsbD]
  rfl

theorem txwWord_default_top (b : Byte) :
    (txwWord .default b).getLsbD 15 = true ∧ (txwWord .default b).getLsbD 14 = false := by
  rw [txwWord_default]
  simp

/-- A word with bit 15 set is no status read, one with bit 14 clear no reset and no wake-timer word. -/
theorem ne_statusWord_of_bit15 {w : Half} (h : w.getLsbD 15 = true) : w ≠ statusWord := by
  rintro rfl
  cases h

theorem ne_resetWord_of_bit14 {w : Half} (h : w.getLsbD 14 = false) :
    w ≠ resetWord DeviceWords.default := by
  rintro rfl
  cases h

/-- The default wake-timer word is the reset word for mantissa 0 and exponent 30 alone (R104). -/
theorem wakeWord_default_eq_reset_iff (m : Byte) (e : BitVec 5) :
    wakeWord .default m e = resetWord .default ↔ m = 0 ∧ e = 30 := by
  constructor
  · intro h
    have hread : DeviceWords.default.wake.read (resetWord .default) = some (e ++ m) := by
      rw [← h]
      exact WordForm.read_word wake_default_separated _
    have hval : (30 : BitVec 5) ++ (0 : Byte) = e ++ m := Option.some.inj (Eq.trans (by decide) hread)
    have hm := congrArg (BitVec.extractLsb' 0 8) hval
    have he := congrArg (BitVec.extractLsb' 8 5) hval
    simp only [BitVec.extractLsb'_append_eq_right, BitVec.extractLsb'_append_eq_left] at hm he
    exact ⟨hm.symm, he.symm⟩
  · rintro ⟨rfl, rfl⟩
    decide

theorem decodeDevice_wakeWord {m : Byte} {e : BitVec 5} (h : ¬ (m = 0 ∧ e = 30)) :
    decodeDevice .default (wakeWord .default m e) = some (.wakeTimer m e) := by
  have hread : DeviceWords.default.wake.read (wakeWord .default m e) = some (e ++ m) :=
    WordForm.read_word wake_default_separated _
  rw [decodeDevice, if_neg (ne_statusWord_of_bit15 (wakeWord_default_top m e)),
    if_neg (mt (wakeWord_default_eq_reset_iff m e).mp h), hread]
  simp only [BitVec.extractLsb'_append_eq_right, BitVec.extractLsb'_append_eq_left]

theorem decodeDevice_txwWord (b : Byte) :
    decodeDevice .default (txwWord .default b) = some (.txWrite b) := by
  obtain ⟨h15, h14⟩ := txwWord_default_top b
  have hwake : DeviceWords.default.wake.read (txwWord .default b) = none :=
    WordForm.read_eq_none (j := 14) rfl h14
  have hread : DeviceWords.default.txw.read (txwWord .default b) = some b :=
    WordForm.read_word txw_default_separated _
  rw [decodeDevice, if_neg (ne_statusWord_of_bit15 h15), if_neg (ne_resetWord_of_bit14 h14), hwake, hread]

theorem decodeDevice_rssiWord (code : BitVec 3) :
    decodeDevice .default (rssiWord .default code) = some (.setRssi code) := by
  revert code
  decide

theorem decodeDevice_pmWord (rx tx wk : Bool) :
    decodeDevice .default (pmWord .default rx tx wk) = some (.setMode rx tx wk) := by
  revert rx tx wk
  decide

theorem ofBool_append_bits (v : BitVec 3) :
    BitVec.ofBool (v.getLsbD 2) ++ BitVec.ofBool (v.getLsbD 1) ++ BitVec.ofBool (v.getLsbD 0) = v := by
  revert v
  decide

/-- Whatever the device words are, a word is the encoding of what it decodes to. -/
theorem encodeWith_of_decodeDevice {dw : DeviceWords} {w : Half} {i : Instr}
    (h : decodeDevice dw w = some i) : encodeWith dw i = .bus w := by
  unfold decodeDevice at h
  split at h
  · cases h; rw [encodeWith, ‹w = _›]
  · split at h
    · cases h; rw [encodeWith, ‹w = _›]
    · split at h
      · rename_i v hv
        cases h
        have happ : v.extractLsb' 8 5 ++ v.extractLsb' 0 8 = v :=
          BitVec.extractLsb'_append_extractLsb' (w := 5) (len := 8)
        rw [encodeWith, wakeWord, happ, WordForm.read_some hv]
      · split at h
        · rename_i hv
          cases h
          rw [encodeWith, txwWord, WordForm.read_some hv]
        · split at h
          · rename_i hv
            cases h
            rw [encodeWith, rssiWord, WordForm.read_some hv]
          · split at h
            · rename_i v hv
              cases h
              rw [encodeWith, pmWord, ofBool_append_bits, WordForm.read_some hv]
            · cases h

/-- What a word decodes to by the default words is well formed: the wake-timer word excepted in `wf` is read
as the reset word (log 22). -/
theorem wf_of_decodeDevice {w : Half} {i : Instr} (h : decodeDevice .default w = some i) :
    i.wf = true := by
  have he := encodeWith_of_decodeDevice h
  cases i with
  | setMode | setRssi | txWrite | devReset | status => rfl
  | wakeTimer m e =>
    by_contra hwf
    obtain ⟨rfl, rfl⟩ : m = 0 ∧ e = 30 := by simpa [Instr.wf] using hwf
    cases he
    cases h
  | _ => cases he

/-! ## Host command words (R90 to R98, R318) -/

/-- The opcode map (R91): what stands under each opcode. -/
inductive HostRow (h : Word) (d : DataPhase) : BitVec 4 → Except RefusalCode Instr → Prop
  | reserved0 : HostRow h d 0x0 (.ok (.reservedOp0 (h.extractLsb' 0 28)))
  | reinit : HostRow h d 0x1 (decodeReinit h d)
  | pktrdy : HostRow h d 0x2 (decodeF0 .pktrdy h d)
  | cantx : HostRow h d 0x3 (decodeF0 .cantx h d)
  | txbegin : HostRow h d 0x4 (decodeTxbegin h d)
  | sleep : HostRow h d 0x5 (decodeSleep h d)
  | woke : HostRow h d 0x6 (decodeF0 .woke h d)
  | setbrk : HostRow h d 0x7 (decodeSetbrk h d)
  | rdhdr : HostRow h d 0x8 (decodeF0 .rdhdr h d)
  | rdlen : HostRow h d 0x9 (decodeF0 .rdlen h d)
  | rddata : HostRow h d 0xA (decodeRddata h d)
  | rdrssi : HostRow h d 0xB (decodeF0 .rdrssi h d)
  | rdflags : HostRow h d 0xC (decodeF0 .rdflags h d)
  | reservedD : HostRow h d 0xD (.ok (.reservedOpD (h.extractLsb' 0 28)))
  | reservedE : HostRow h d 0xE (.ok (.reservedOpE (h.extractLsb' 0 28)))
  | reservedF : HostRow h d 0xF (.ok (.reservedOpF (h.extractLsb' 0 28)))

theorem decodeHost_row (h : Word) (d : DataPhase) : HostRow h d (opField h) (decodeHost h d) := by
  unfold decodeHost
  generalize opField h = op
  obtain ⟨⟨n, hn⟩⟩ := op
  interval_cases n <;> constructor

/-- A command word is its opcode above its low 28 bits. -/
theorem word_eq_append (h : Word) : opField h ++ h.extractLsb' 0 28 = h :=
  BitVec.extractLsb'_append_extractLsb' (w := 4) (len := 28)

/-- A command word is put together again from the fields of its format: FR, FT, FB and FI. -/
theorem word_eq_reinit (h : Word) :
    opField h ++ h.extractLsb' 26 2 ++ h.extractLsb' 24 2 ++ h.extractLsb' 16 8 ++ h.extractLsb' 8 8
      ++ h.extractLsb' 5 3 ++ h.extractLsb' 0 5 = h := by
  rw [opField]
  repeat rw [BitVec.extractLsb'_append_extractLsb'_eq_extractLsb' (by rfl)]
  exact BitVec.extractLsb'_eq_self

theorem word_eq_txbegin (h : Word) :
    opField h ++ h.extractLsb' 16 12 ++ h.extractLsb' 8 8 ++ h.extractLsb' 0 8 = h := by
  rw [opField]
  repeat rw [BitVec.extractLsb'_append_extractLsb'_eq_extractLsb' (by rfl)]
  exact BitVec.extractLsb'_eq_self

theorem word_eq_setbrk (h : Word) :
    opField h ++ h.extractLsb' 1 27 ++ BitVec.ofBool (h.getLsbD 0) = h := by
  have hbit : BitVec.ofBool (h.getLsbD 0) = h.extractLsb' 0 1 := by
    refine BitVec.eq_of_getLsbD_eq fun i hi => ?_
    obtain rfl : i = 0 := Nat.lt_one_iff.mp hi
    simp
  rw [opField, hbit]
  repeat rw [BitVec.extractLsb'_append_extractLsb'_eq_extractLsb' (by rfl)]
  exact BitVec.extractLsb'_eq_self

theorem word_eq_rddata (h : Word) :
    opField h ++ h.extractLsb' 8 20 ++ h.extractLsb' 0 8 = h := by
  rw [opField]
  repeat rw [BitVec.extractLsb'_append_extractLsb'_eq_extractLsb' (by rfl)]
  exact BitVec.extractLsb'_eq_self

/-! ### What each format checks (R318) -/

/-- The order of the checks of a format: the reserved bits are clear, the data phase fits, and then the word
decodes to the instruction with its fields. -/
structure Checks (r : Except RefusalCode Instr) (clear fits : Prop) (i : Instr) : Prop where
  rsvField : ¬ clear → r = .error .rsvField
  dataPhase : clear → ¬ fits → r = .error .dataPhase
  decodes : clear → fits → r = .ok i

/-- What decodes passed both checks. -/
theorem Checks.of_ok {r : Except RefusalCode Instr} {clear fits : Prop} {i j : Instr}
    (h : Checks r clear fits i) (hr : r = .ok j) : clear ∧ fits ∧ j = i := by
  have hc : clear := by
    by_contra hn
    cases hr.symm.trans (h.rsvField hn)
  have hf : fits := by
    by_contra hn
    cases hr.symm.trans (h.dataPhase hc hn)
  exact ⟨hc, hf, Except.ok.inj (hr.symm.trans (h.decodes hc hf))⟩

theorem Checks.congr {r : Except RefusalCode Instr} {clear clear' fits fits' : Prop} {i : Instr}
    (h : Checks r clear fits i) (hc : clear' ↔ clear) (hf : fits' ↔ fits) : Checks r clear' fits' i where
  rsvField hn := h.rsvField (mt hc.mpr hn)
  dataPhase hy hn := h.dataPhase (hc.mp hy) (mt hf.mpr hn)
  decodes hy hy' := h.decodes (hc.mp hy) (hf.mp hy')

theorem DataPhase.eq_empty_iff (d : DataPhase) : d = {} ↔ d.bytes = [] ∧ d.words = [] := by
  cases d
  simp

/-- The common shape of a format: reserved bits, data phase, instruction. -/
theorem checks_ite {p q clear fits : Prop} [Decidable p] [Decidable q] {i : Instr}
    (hp : p ↔ ¬ clear) (hq : q ↔ ¬ fits) :
    Checks (if p then .error .rsvField else if q then .error .dataPhase else .ok i) clear fits i where
  rsvField hn := if_pos (hp.mpr hn)
  dataPhase hy hn := by rw [if_neg fun h => hp.mp h hy, if_pos (hq.mpr hn)]
  decodes hy hy' := by rw [if_neg fun h => hp.mp h hy, if_neg fun h => hq.mp h hy']

theorem decodeF0_checks (i : Instr) (h : Word) (d : DataPhase) :
    Checks (decodeF0 i h d) (h.extractLsb' 0 28 = 0) (d.bytes = [] ∧ d.words = []) i :=
  checks_ite Iff.rfl (not_congr d.eq_empty_iff)

theorem decodeReinit_checks (h : Word) (d : DataPhase) :
    Checks (decodeReinit h d) (h.extractLsb' 26 2 = 0 ∧ h.extractLsb' 5 3 = 0)
      (d.bytes = [] ∧ d.words = [])
      (.reinit (h.extractLsb' 0 5) (h.extractLsb' 24 2) (h.extractLsb' 8 8) (h.extractLsb' 16 8)) :=
  checks_ite Decidable.not_and_iff_or_not.symm (not_congr d.eq_empty_iff)

theorem decodeTxbegin_checks (h : Word) (d : DataPhase) :
    Checks (decodeTxbegin h d) (h.extractLsb' 16 12 = 0)
      (d.bytes.length = (h.extractLsb' 0 8).toNat ∧ d.words = [])
      (.txbegin (h.extractLsb' 8 8) (h.extractLsb' 0 8) d.bytes) :=
  checks_ite Iff.rfl Decidable.not_and_iff_or_not.symm

theorem decodeSetbrk_checks (h : Word) (d : DataPhase) :
    Checks (decodeSetbrk h d) (h.extractLsb' 1 27 = 0) (d.bytes = [] ∧ d.words = [])
      (.setbrk (h.getLsbD 0)) :=
  checks_ite Iff.rfl (not_congr d.eq_empty_iff)

theorem decodeRddata_checks (h : Word) (d : DataPhase) :
    Checks (decodeRddata h d) (h.extractLsb' 8 20 = 0) (d.bytes = [] ∧ d.words = [])
      (.rddata (h.extractLsb' 0 8)) :=
  checks_ite Iff.rfl (not_congr d.eq_empty_iff)

theorem decodeSleep_checks (h : Word) (d : DataPhase) :
    Checks (decodeSleep h d) (h.extractLsb' 0 28 = 0) (d.bytes = [] ∧ d.words.length = 1)
      (.sleep (d.words.headD 0)) where
  rsvField hc := if_pos hc
  dataPhase hc hf := by
    unfold decodeSleep
    rw [if_neg (not_not_intro hc)]
    split
    · exact absurd ⟨rfl, rfl⟩ hf
    · rfl
  decodes hc hf := by
    obtain ⟨bytes, words⟩ := d
    obtain ⟨rfl, hw⟩ := hf
    obtain ⟨ms, rfl⟩ := List.length_eq_one_iff.mp hw
    exact decodeSleep_ok hc ms

/-- The mask of a field, bit by bit. -/
theorem fieldMask_getLsbD {start len : Nat} (hlen : start + len ≤ 32) (i : Nat) :
    ((BitVec.allOnes len).setWidth 32 <<< start).getLsbD i = decide (start ≤ i ∧ i < start + len) := by
  rw [Bool.eq_iff_iff]
  simp
  omega

/-- A mask of one field is clear in a word exactly when the field is zero. -/
theorem and_fieldMask_eq_zero_iff (h : Word) {start len : Nat} (hlen : start + len ≤ 32) :
    h &&& ((BitVec.allOnes len).setWidth 32 <<< start) = 0 ↔ h.extractLsb' start len = 0 := by
  constructor
  · intro hz
    refine BitVec.eq_of_getLsbD_eq fun i hi => ?_
    have hbit := congrArg (BitVec.getLsbD · (start + i)) hz
    simpa [fieldMask_getLsbD hlen, hi] using hbit
  · intro hz
    refine BitVec.eq_of_getLsbD_eq fun i hi => ?_
    rw [BitVec.getLsbD_and, fieldMask_getLsbD hlen]
    by_cases hin : start ≤ i ∧ i < start + len
    · have hbit := congrArg (BitVec.getLsbD · (i - start)) hz
      have hlt : i - start < len := by omega
      have hadd : start + (i - start) = i := by omega
      have hclear : h.getLsbD i = false := by simpa [hlt, hadd] using hbit
      simp [hclear]
    · simp [hin]

theorem word_and_or_eq_zero_iff (h m n : Word) : h &&& (m ||| n) = 0 ↔ h &&& m = 0 ∧ h &&& n = 0 := by
  rw [BitVec.and_or_distrib_left]
  exact BitVec.or_eq_zero_iff

open Sys2Proof.Safety in
/-- What every opcode that is not reserved checks. -/
theorem decodeHost_checks {h : Word} (d : DataPhase) (hop : ¬ reservedOpcode (opField h)) :
    ∃ i, Checks (decodeHost h d) (h &&& reservedBits (opField h) = 0) (dataPhaseFits h d) i := by
  have hrow := decodeHost_row h d
  unfold dataPhaseFits
  generalize opField h = op at *
  generalize decodeHost h d = r at *
  cases hrow with
  | reserved0 | reservedD | reservedE | reservedF => exact absurd (by decide) hop
  | pktrdy | cantx | woke | rdhdr | rdlen | rdrssi | rdflags =>
    exact ⟨_, (decodeF0_checks _ h d).congr
      (and_fieldMask_eq_zero_iff h (start := 0) (len := 28) (by decide)) Iff.rfl⟩
  | reinit =>
    exact ⟨_, (decodeReinit_checks h d).congr
      ((word_and_or_eq_zero_iff h _ _).trans (and_congr
        (and_fieldMask_eq_zero_iff h (start := 26) (len := 2) (by decide))
        (and_fieldMask_eq_zero_iff h (start := 5) (len := 3) (by decide)))) Iff.rfl⟩
  | txbegin =>
    exact ⟨_, (decodeTxbegin_checks h d).congr
      (and_fieldMask_eq_zero_iff h (start := 16) (len := 12) (by decide)) Iff.rfl⟩
  | sleep =>
    exact ⟨_, (decodeSleep_checks h d).congr
      (and_fieldMask_eq_zero_iff h (start := 0) (len := 28) (by decide)) Iff.rfl⟩
  | setbrk =>
    exact ⟨_, (decodeSetbrk_checks h d).congr
      (and_fieldMask_eq_zero_iff h (start := 1) (len := 27) (by decide)) Iff.rfl⟩
  | rddata =>
    exact ⟨_, (decodeRddata_checks h d).congr
      (and_fieldMask_eq_zero_iff h (start := 8) (len := 20) (by decide)) Iff.rfl⟩

open Sys2Proof.Safety in
/-- A reserved opcode decodes to its own instruction, whatever stands below it (R98). -/
theorem decodeHost_reserved {h : Word} (d : DataPhase) (hop : reservedOpcode (opField h)) :
    ∃ i, decodeHost h d = .ok i
      ∧ ∀ s, Machine.exec i s = .next { s with refusedMark := some .rsvOpcode } := by
  have hrow := decodeHost_row h d
  generalize opField h = op at *
  generalize decodeHost h d = r at *
  cases hrow with
  | reserved0 | reservedD | reservedE | reservedF => exact ⟨_, rfl, fun _ => rfl⟩
  | _ => exact absurd hop (by decide)

/-- Settles O5: the checks of the opcode's format in their order. -/
theorem refusedEncodingsByCause : Obligations.RefusedEncodingsByCause := by
  unfold Obligations.RefusedEncodingsByCause
  refine fun h d => ⟨decodeHost_reserved d, fun hop => ?_, fun hop => ?_, fun hop hc hf => ?_⟩ <;>
    obtain ⟨i, hchecks⟩ := decodeHost_checks d hop
  · exact hchecks.rsvField
  · exact hchecks.dataPhase
  · exact ⟨i, hchecks.decodes hc hf⟩

/-! ## Encode after decode (R91 to R97, R102) -/

theorem encode_of_decodeF0 {i j : Instr} {h : Word} {d : DataPhase}
    (he : encode i = .host (wordF0 (opField h)) {}) (hd : decodeF0 i h d = .ok j) :
    j = i ∧ encode i = .host h d := by
  obtain ⟨hlow, hdata, rfl⟩ := (decodeF0_checks i h d).of_ok hd
  rw [he, d.eq_empty_iff.mpr hdata, wordF0, ← hlow, word_eq_append]
  exact ⟨rfl, rfl⟩

theorem encode_of_decodeReinit {i : Instr} {h : Word} {d : DataPhase} (hop : opField h = 0x1)
    (hd : decodeReinit h d = .ok i) : i.wf = true ∧ encode i = .host h d := by
  obtain ⟨⟨hhi, hlo⟩, hdata, rfl⟩ := (decodeReinit_checks h d).of_ok hd
  have hword := word_eq_reinit h
  rw [hop, hhi, hlo] at hword
  exact ⟨rfl, congrArg₂ Input.host hword (d.eq_empty_iff.mpr hdata).symm⟩

theorem encode_of_decodeTxbegin {i : Instr} {h : Word} {d : DataPhase} (hop : opField h = 0x4)
    (hd : decodeTxbegin h d = .ok i) : i.wf = true ∧ encode i = .host h d := by
  obtain ⟨hrsv, ⟨hlen, hwords⟩, rfl⟩ := (decodeTxbegin_checks h d).of_ok hd
  have hword := word_eq_txbegin h
  rw [hop, hrsv] at hword
  obtain ⟨bytes, words⟩ := d
  obtain rfl : words = [] := hwords
  exact ⟨beq_iff_eq.mpr hlen, congrArg (Input.host · { bytes := bytes }) hword⟩

theorem encode_of_decodeSleep {i : Instr} {h : Word} {d : DataPhase} (hop : opField h = 0x5)
    (hd : decodeSleep h d = .ok i) : i.wf = true ∧ encode i = .host h d := by
  obtain ⟨hlow, ⟨hbytes, hwords⟩, rfl⟩ := (decodeSleep_checks h d).of_ok hd
  have hword := word_eq_append h
  rw [hop, hlow] at hword
  obtain ⟨bytes, words⟩ := d
  obtain rfl : bytes = [] := hbytes
  obtain ⟨ms, rfl⟩ := List.length_eq_one_iff.mp hwords
  exact ⟨rfl, congrArg (Input.host · { words := [ms] }) hword⟩

theorem encode_of_decodeSetbrk {i : Instr} {h : Word} {d : DataPhase} (hop : opField h = 0x7)
    (hd : decodeSetbrk h d = .ok i) : i.wf = true ∧ encode i = .host h d := by
  obtain ⟨hrsv, hdata, rfl⟩ := (decodeSetbrk_checks h d).of_ok hd
  have hword := word_eq_setbrk h
  rw [hop, hrsv] at hword
  exact ⟨rfl, congrArg₂ Input.host hword (d.eq_empty_iff.mpr hdata).symm⟩

theorem encode_of_decodeRddata {i : Instr} {h : Word} {d : DataPhase} (hop : opField h = 0xA)
    (hd : decodeRddata h d = .ok i) : i.wf = true ∧ encode i = .host h d := by
  obtain ⟨hrsv, hdata, rfl⟩ := (decodeRddata_checks h d).of_ok hd
  have hword := word_eq_rddata h
  rw [hop, hrsv] at hword
  exact ⟨rfl, congrArg₂ Input.host hword (d.eq_empty_iff.mpr hdata).symm⟩

open Sys2Proof.Safety in
theorem encode_of_decodeHost {h : Word} {d : DataPhase} {i : Instr} (hd : decodeHost h d = .ok i) :
    i.wf = true ∧ ∃ d', encode i = .host h d' ∧ (d' = d ∨ reservedOpcode (opField h)) := by
  have hrow := decodeHost_row h d
  have hword := word_eq_append h
  rw [hd] at hrow
  generalize hop : opField h = op at *
  generalize hr : (Except.ok i : Except RefusalCode Instr) = r at *
  cases hrow with
  | reserved0 | reservedD | reservedE | reservedF =>
    cases hr
    exact ⟨rfl, {}, congrArg (Input.host · {}) hword, .inr (by decide)⟩
  | pktrdy | cantx | woke | rdhdr | rdlen | rdrssi | rdflags =>
    obtain ⟨rfl, he⟩ := encode_of_decodeF0 (by rw [hop]; rfl) hr.symm
    exact ⟨rfl, d, he, .inl rfl⟩
  | reinit =>
    obtain ⟨hwf, he⟩ := encode_of_decodeReinit hop hr.symm
    exact ⟨hwf, d, he, .inl rfl⟩
  | txbegin =>
    obtain ⟨hwf, he⟩ := encode_of_decodeTxbegin hop hr.symm
    exact ⟨hwf, d, he, .inl rfl⟩
  | sleep =>
    obtain ⟨hwf, he⟩ := encode_of_decodeSleep hop hr.symm
    exact ⟨hwf, d, he, .inl rfl⟩
  | setbrk =>
    obtain ⟨hwf, he⟩ := encode_of_decodeSetbrk hop hr.symm
    exact ⟨hwf, d, he, .inl rfl⟩
  | rddata =>
    obtain ⟨hwf, he⟩ := encode_of_decodeRddata hop hr.symm
    exact ⟨hwf, d, he, .inl rfl⟩

/-! ## Status events and their rows (R102) -/

/-- A status word matches a row of R102 exactly when the bits of the row's mask are those of its pattern. -/
theorem matchesRow_iff (w mask pat : Half) :
    matchesRow w mask pat = true ↔ ∀ i < 16, (w.getLsbD i && mask.getLsbD i) = pat.getLsbD i := by
  rw [matchesRow, beq_iff_eq]
  constructor
  · rintro rfl i -
    exact (BitVec.getLsbD_and).symm
  · exact fun h => BitVec.eq_of_getLsbD_eq fun i hi => (BitVec.getLsbD_and).trans (h i hi)

theorem evPor_wf_iff (w : Half) : (Instr.evPor w).wf = true ↔ w.getLsbD 14 = true :=
  (matchesRow_iff w 0x4000 0x4000).trans (by simp only [Nat.forall_lt_succ_right]; simp)

theorem evWake_wf_iff (w : Half) :
    (Instr.evWake w).wf = true ↔ w.getLsbD 12 = true ∧ w.getLsbD 14 = false :=
  (matchesRow_iff w 0x5000 0x1000).trans (by simp only [Nat.forall_lt_succ_right]; simp)

theorem evOvf_wf_iff (w : Half) :
    (Instr.evOvf w).wf = true ↔ w.getLsbD 13 = true ∧ w.getLsbD 14 = false :=
  (matchesRow_iff w 0x6000 0x2000).trans (by simp only [Nat.forall_lt_succ_right]; simp)

theorem fifoRow_iff (w : Half) : matchesRow w 0xE000 0x8000 = true ↔
    w.getLsbD 15 = true ∧ w.getLsbD 13 = false ∧ w.getLsbD 14 = false :=
  (matchesRow_iff w 0xE000 0x8000).trans (by simp only [Nat.forall_lt_succ_right]; simp; tauto)

theorem evNone_wf_iff (w : Half) : (Instr.evNone w).wf = true ↔
    w.getLsbD 12 = false ∧ w.getLsbD 15 = false ∧ w.getLsbD 13 = false ∧ w.getLsbD 14 = false :=
  (matchesRow_iff w 0xF000 0x0000).trans (by simp only [Nat.forall_lt_succ_right]; simp; tauto)

/-- The FIFO event of any case is well formed exactly when the status word reports one. -/
theorem fifoEvent_wf_iff (w : Half) (b : Byte) (c : FifoCase) : (fifoEvent w b c).wf = true ↔
    w.getLsbD 15 = true ∧ w.getLsbD 13 = false ∧ w.getLsbD 14 = false := by
  cases c <;> exact fifoRow_iff w

/-- The events of a status word are well formed, and are encoded by it. -/
theorem wf_and_encode_of_mem_statusEvents {w : Half} {b : Byte} {c : FifoCase} {i : Instr}
    (h : i ∈ statusEvents w b c) : i.wf = true ∧ ∃ b', encode i = .irq w b' := by
  obtain ⟨rfl, hbits⟩ | ⟨rfl, hbits⟩ | ⟨rfl, hbits⟩ | ⟨rfl, hbits⟩ | ⟨rfl, hbits⟩ :=
    (mem_statusEvents_iff i w b c).mp h
  · exact ⟨(evPor_wf_iff w).mpr hbits, 0, rfl⟩
  · exact ⟨(evOvf_wf_iff w).mpr hbits, 0, rfl⟩
  · refine ⟨(fifoEvent_wf_iff w b c).mpr hbits, ?_⟩
    cases c <;> exact ⟨_, rfl⟩
  · exact ⟨(evWake_wf_iff w).mpr hbits, 0, rfl⟩
  · exact ⟨(evNone_wf_iff w).mpr hbits, 0, rfl⟩

/-- Settles O4: port by port. -/
theorem encodeOfDecodeIsTheWord : Obligations.EncodeOfDecodeIsTheWord := by
  unfold Obligations.EncodeOfDecodeIsTheWord
  exact ⟨fun _ _ _ => encode_of_decodeHost, fun _ _ _ => encodeWith_of_decodeDevice,
    fun _ _ => wf_of_decodeDevice, fun _ _ _ _ => wf_and_encode_of_mem_statusEvents⟩

/-! ## Decode after encode -/

theorem fifoEvent_mem_statusEvents {w : Half}
    (h : w.getLsbD 15 = true ∧ w.getLsbD 13 = false ∧ w.getLsbD 14 = false) (b : Byte) (c : FifoCase) :
    fifoEvent w b c ∈ statusEvents w b c :=
  (mem_statusEvents_iff _ w b c).mpr (.inr (.inr (.inl ⟨rfl, h⟩)))

theorem evNone_mem_statusEvents {w : Half}
    (h : w.getLsbD 12 = false ∧ w.getLsbD 15 = false ∧ w.getLsbD 13 = false ∧ w.getLsbD 14 = false)
    (b : Byte) (c : FifoCase) : .evNone w ∈ statusEvents w b c :=
  (mem_statusEvents_iff _ w b c).mpr (.inr (.inr (.inr (.inr ⟨rfl, h⟩))))

/-- The fields of the words of the formats FR, FT, FB and FI, read back. -/
theorem decodeHost_reinitWord (node : BitVec 5) (band : BitVec 2) (group rate : Byte) :
    decodeHost ((0x1 : BitVec 4) ++ (0 : BitVec 2) ++ band ++ rate ++ group ++ (0 : BitVec 3) ++ node) {}
      = .ok (.reinit node band group rate) := by
  rw [decodeHost_of_opReinit, decodeReinit_ok]
  all_goals
    simp +decide only [opField, BitVec.extractLsb'_append_eq_of_le, BitVec.extractLsb'_append_eq_of_add_le,
      Nat.reduceSub, BitVec.extractLsb'_eq_self]

theorem decodeHost_txbeginWord (hdr len : Byte) {data : List Byte} (hd : data.length = len.toNat) :
    decodeHost ((0x4 : BitVec 4) ++ (0 : BitVec 12) ++ hdr ++ len) { bytes := data }
      = .ok (.txbegin hdr len data) := by
  rw [decodeHost_of_opTxbegin, decodeTxbegin_ok]
  all_goals
    simp +decide only [opField, BitVec.extractLsb'_append_eq_of_le, BitVec.extractLsb'_append_eq_of_add_le,
      Nat.reduceSub, BitVec.extractLsb'_eq_self, hd]

theorem decodeHost_of_opRddata {h : Word} (hop : opField h = 0xA) (d : DataPhase) :
    decodeHost h d = decodeRddata h d := by simp [decodeHost, hop]

theorem decodeHost_rddataWord (idx : Byte) :
    decodeHost ((0xA : BitVec 4) ++ (0 : BitVec 20) ++ idx) {} = .ok (.rddata idx) := by
  rw [decodeHost_of_opRddata, (decodeRddata_checks _ _).decodes]
  all_goals
    simp +decide only [opField, BitVec.extractLsb'_append_eq_of_le, BitVec.extractLsb'_append_eq_of_add_le,
      Nat.reduceSub, BitVec.extractLsb'_eq_self]

theorem opField_append (op : BitVec 4) (low : BitVec 28) : opField (op ++ low) = op :=
  BitVec.extractLsb'_append_eq_left

theorem lowField_append (op : BitVec 4) (low : BitVec 28) :
    BitVec.extractLsb' 0 28 (op ++ low : Word) = low := BitVec.extractLsb'_append_eq_right

theorem decodeHost_reservedWord (low : BitVec 28) :
    decodeHost ((0x0 : BitVec 4) ++ low) {} = .ok (.reservedOp0 low)
    ∧ decodeHost ((0xD : BitVec 4) ++ low) {} = .ok (.reservedOpD low)
    ∧ decodeHost ((0xE : BitVec 4) ++ low) {} = .ok (.reservedOpE low)
    ∧ decodeHost ((0xF : BitVec 4) ++ low) {} = .ok (.reservedOpF low) := by
  simp [decodeHost, opField_append, lowField_append]

/-- Settles O3: constructor by constructor. -/
theorem decodeOfEncodeIsTheInstruction : Obligations.DecodeOfEncodeIsTheInstruction := by
  unfold Obligations.DecodeOfEncodeIsTheInstruction
  intro i hwf
  cases i with
  -- host operations
  | reinit => exact decodeHost_reinitWord _ _ _ _
  | txbegin hdr len data => exact decodeHost_txbeginWord hdr len (beq_iff_eq.mp hwf)
  | rddata idx => exact decodeHost_rddataWord idx
  | setbrk v => cases v <;> rfl
  | pktrdy | cantx | sleep | woke | rdhdr | rdlen | rdrssi | rdflags => rfl
  | reservedOp0 low => exact (decodeHost_reservedWord low).1
  | reservedOpD low => obtain ⟨-, hD, -⟩ := decodeHost_reservedWord low; exact hD
  | reservedOpE low => obtain ⟨-, -, hE, -⟩ := decodeHost_reservedWord low; exact hE
  | reservedOpF low => obtain ⟨-, -, -, hF⟩ := decodeHost_reservedWord low; exact hF
  -- status events
  | evPor w => exact ⟨.rx, (evPor_mem_statusEvents_iff w 0 .rx).mpr ((evPor_wf_iff w).mp hwf)⟩
  | evWake w => exact ⟨.rx, (evWake_mem_statusEvents_iff w 0 .rx).mpr ((evWake_wf_iff w).mp hwf)⟩
  | evOvf w => exact ⟨.rx, (evOvf_mem_statusEvents_iff w 0 .rx).mpr ((evOvf_wf_iff w).mp hwf)⟩
  | evFifoRx w b => exact ⟨.rx, fifoEvent_mem_statusEvents ((fifoRow_iff w).mp hwf) b .rx⟩
  | evFifoTx w => exact ⟨.tx, fifoEvent_mem_statusEvents ((fifoRow_iff w).mp hwf) 0 .tx⟩
  | evFifoIgn w => exact ⟨.ignored, fifoEvent_mem_statusEvents ((fifoRow_iff w).mp hwf) 0 .ignored⟩
  | evNone w => exact ⟨.rx, evNone_mem_statusEvents ((evNone_wf_iff w).mp hwf) 0 .rx⟩
  -- device words
  | setMode => exact decodeDevice_pmWord _ _ _
  | setRssi => exact decodeDevice_rssiWord _
  | txWrite => exact decodeDevice_txwWord _
  | wakeTimer m e => exact decodeDevice_wakeWord (by simpa [Instr.wf, imp_iff_not_or] using hwf)
  | devReset => exact (by decide : decodeDevice .default 0xFE00 = some .devReset)
  | status => rfl

/-- Settles O1: each word evaluated. -/
theorem hostWordsDecodeAsLaidOut : Obligations.HostWordsDecodeAsLaidOut := by
  unfold Obligations.HostWordsDecodeAsLaidOut
  exact ⟨rfl, rfl, rfl, rfl, rfl, rfl, rfl, rfl, rfl, rfl, rfl, rfl, rfl, rfl, by decide, by decide⟩

end Sys2Proof

namespace Sys2Proof.Machine

/-! ## The words and the wire bits of the bus operations (R66, R68, R104) -/

/-- Settles O31: each device word's meaning is one `bus` operation. -/
theorem deviceWordsAreBusOperations : Obligations.DeviceWordsAreBusOperations := by
  unfold Obligations.DeviceWordsAreBusOperations
  exact fun s => ⟨fun _ _ _ => rfl, fun _ => rfl, fun _ => rfl, fun _ _ => rfl, rfl,
    Config.freeStatus s.draws, rfl⟩

theorem pmWord_default_fields (rx tx wk : Bool) :
    (pmWord .default rx tx wk).extractLsb' 8 8 = 0x82
    ∧ (pmWord .default rx tx wk).getLsbD 7 = rx ∧ (pmWord .default rx tx wk).getLsbD 6 = rx
    ∧ (pmWord .default rx tx wk).getLsbD 5 = tx ∧ (pmWord .default rx tx wk).getLsbD 4 = (rx || tx)
    ∧ (pmWord .default rx tx wk).getLsbD 3 = true ∧ (pmWord .default rx tx wk).getLsbD 2 = true
    ∧ (pmWord .default rx tx wk).getLsbD 1 = wk ∧ (pmWord .default rx tx wk).getLsbD 0 = true := by
  revert rx tx wk
  decide

theorem rssiWord_default_fields (code : BitVec 3) :
    (rssiWord .default code).extractLsb' 0 3 = code
    ∧ (rssiWord .default code).extractLsb' 3 13 = 0x1294 := by
  revert code
  decide

theorem txwWord_default_fields (b : Byte) :
    (txwWord .default b).extractLsb' 0 8 = b ∧ (txwWord .default b).extractLsb' 8 8 = 0xB8 := by
  rw [txwWord_default]
  constructor <;> refine BitVec.eq_of_getLsbD_eq fun i hi => ?_ <;> interval_cases i <;> simp

theorem wakeWord_default_fields (m : Byte) (e : BitVec 5) :
    (wakeWord .default m e).extractLsb' 0 8 = m ∧ (wakeWord .default m e).extractLsb' 8 5 = e
    ∧ (wakeWord .default m e).extractLsb' 13 3 = 0b111 := by
  rw [wakeWord_default]
  refine ⟨?_, ?_, ?_⟩ <;> refine BitVec.eq_of_getLsbD_eq fun i hi => ?_ <;> interval_cases i <;> simp

/-- The wake word of an exponent the encoder gives (R271) is never the reset word. -/
theorem wakeWord_default_ne_reset (m : Byte) {e : BitVec 5} (he : e.toNat ≤ 24) :
    wakeWord .default m e ≠ 0xFE00 := by
  intro h
  obtain ⟨-, rfl⟩ := (wakeWord_default_eq_reset_iff m e).mp h
  exact absurd he (by decide)

theorem ofBool_append_getElem (a b c : Bool) :
    (BitVec.ofBool a ++ BitVec.ofBool b ++ BitVec.ofBool c)[0] = c
    ∧ (BitVec.ofBool a ++ BitVec.ofBool b ++ BitVec.ofBool c)[1] = b
    ∧ (BitVec.ofBool a ++ BitVec.ofBool b ++ BitVec.ofBool c)[2] = a := by
  revert a b c
  decide

/-- The mode word by any device words, bit by bit (R11). -/
theorem pmWord_getLsbD (dw : DeviceWords) (rx tx wk : Bool) (i : Nat) :
    (pmWord dw rx tx wk).getLsbD i = (dw.pm.op.getLsbD i
      || (rx && (dw.pm.bits[2]).getLsbD i) || (tx && (dw.pm.bits[1]).getLsbD i)
      || (wk && (dw.pm.bits[0]).getLsbD i)) := by
  obtain ⟨h0, h1, h2⟩ := ofBool_append_getElem rx tx wk
  rw [pmWord, WordForm.word_getLsbD, Bool.eq_iff_iff]
  simp [Fin.exists_fin_succ, h0, h1, h2]
  tauto

/-- The wake-timer word by any device words, bit by bit: the mantissa's images and the exponent's. -/
theorem wakeWord_getLsbD (dw : DeviceWords) (m : Byte) (e : BitVec 5) (i : Nat) :
    (wakeWord dw m e).getLsbD i = (dw.wake.op.getLsbD i
      || decide (∃ k : Fin 8, m.getLsbD k = true ∧ (dw.wake.bits[k.val]).getLsbD i = true)
      || decide (∃ k : Fin 5, e.getLsbD k = true ∧ (dw.wake.bits[8 + k.val]).getLsbD i = true)) := by
  rw [wakeWord, WordForm.word_getLsbD, Bool.or_assoc, ← Bool.decide_or]
  refine congrArg _ (decide_eq_decide.mpr ⟨?_, ?_⟩)
  · rintro ⟨k, hv, hk⟩
    rw [BitVec.getLsbD_append] at hv
    split at hv
    · exact .inl ⟨⟨k, ‹_›⟩, hv, hk⟩
    · refine .inr ⟨⟨k - 8, by omega⟩, hv, ?_⟩
      have hadd : 8 + (k.val - 8) = k.val := by omega
      simpa only [Fin.getElem_fin, hadd] using hk
  · rintro (⟨k, hv, hk⟩ | ⟨k, hv, hk⟩)
    · refine ⟨⟨k, by omega⟩, ?_, hk⟩
      rw [BitVec.getLsbD_append, if_pos k.isLt]
      exact hv
    · refine ⟨⟨8 + k, by omega⟩, ?_, hk⟩
      rw [BitVec.getLsbD_append, if_neg (by simp), Nat.add_sub_cancel_left]
      exact hv

/-- The words go over the wire one after the other, each most significant bit first. -/
theorem flatMap_wireBits (us : List Half) :
    (us.flatMap wireBits).length = 16 * us.length
    ∧ ∀ (j : Nat) (u : Half), us[j]? = some u →
        ∀ i, i < 16 → (us.flatMap wireBits)[16 * j + i]? = some (u.getLsbD (15 - i)) := by
  induction us with
  | nil => simp
  | cons v rest ih =>
    obtain ⟨hlen, hbits⟩ := ih
    refine ⟨by simp [hlen]; omega, fun j u hu i hi => ?_⟩
    rw [List.flatMap_cons]
    cases j with
    | zero =>
      obtain rfl : v = u := Option.some.inj hu
      rw [List.getElem?_append_left (by simpa using hi), Nat.mul_zero, Nat.zero_add, wireBits_getElem? v hi]
    | succ j =>
      rw [List.getElem?_append_right (by simp; omega), ← hbits j u hu i hi]
      congr 1
      simp
      omega

/-- Settles O32: the default words field by field, any device words bit by bit, and the wire. -/
theorem busOperationWords : Obligations.BusOperationWords := by
  unfold Obligations.BusOperationWords
  refine ⟨fun rx tx wk => ⟨_, rfl, pmWord_default_fields rx tx wk⟩,
    fun code => ⟨_, rfl, rssiWord_default_fields code⟩, fun b => ⟨_, rfl, txwWord_default_fields b⟩,
    fun m e => ⟨_, rfl, ?_⟩, rfl, fun _ _ => rfl, fun _ => rfl,
    fun dw rx tx wk => ⟨_, rfl, pmWord_getLsbD dw rx tx wk⟩,
    fun dw code => ⟨_, rfl, WordForm.word_getLsbD dw.rssi code⟩,
    fun dw b => ⟨_, rfl, WordForm.word_getLsbD dw.txw b⟩,
    fun dw m e => ⟨_, rfl, wakeWord_getLsbD dw m e⟩, fun _ _ => rfl,
    fun dw e => flatMap_wireBits (e.words dw), fun v i hi => wireBits_getElem? v hi,
    fun b dw => ⟨wireBits_length b, rfl, fun i hi => wireBits_getElem? b hi⟩⟩
  obtain ⟨hm, he, htop⟩ := wakeWord_default_fields m e
  exact ⟨hm, he, htop, wakeWord_default_ne_reset m⟩

end Sys2Proof.Machine

/-! PROOFS. Single operations and datapaths: the checksum's round trip (R236), the RSSI search (R250 to R258),
PKTRDY, SEND and the accessors (R107, R132 to R140), the reset state (R341), and how a step comes by its
instructions (R130, R180 to R182, R310). -/

namespace Sys2Proof.Machine

open Sys2Proof.Safety

/-! ## The checksum's round trip (R236) -/

/-- A byte alone in the accumulator is its own low byte, with nothing above it. -/
theorem extractLsb'_setWidth_byte (b : Byte) :
    (b.setWidth 16 : Half).extractLsb' 0 8 = b ∧ (b.setWidth 16 : Half).extractLsb' 8 8 = 0 := by
  constructor <;> refine BitVec.eq_of_getLsbD_eq fun i hi => ?_ <;> interval_cases i <;> simp

/-- An accumulator fed its own two bytes, low byte first, is 0. -/
theorem crcFold_trailer (c : Half) : crcFold c (crcTrailer c) = 0x0000 := by
  obtain ⟨hlow, hhigh⟩ := extractLsb'_setWidth_byte (c.extractLsb' 8 8)
  calc crcFold c (crcTrailer c)
      = crc16Update (crc16Update c (c.extractLsb' 0 8)) (c.extractLsb' 8 8) := rfl
    _ = crc16Update ((c.extractLsb' 8 8).setWidth 16) (c.extractLsb' 8 8) := by rw [crc16Update_lowByte]
    _ = ((0 : Byte).setWidth 16) := by
        conv => lhs; arg 2; rw [← hlow]
        rw [crc16Update_lowByte, hhigh]
    _ = 0x0000 := rfl

/-- Settles O34: the fold over the sequence ends in some accumulator, and its trailer clears that. -/
theorem checksumRoundTrip : Obligations.ChecksumRoundTrip := by
  unfold Obligations.ChecksumRoundTrip
  intro c xs
  rw [crcFold_append, crcFold_trailer]

/-! ## The RSSI search (R250 to R258, I-g) -/

/-- The search position after one step from any position. -/
def RssiNode.next (r : RssiNode) (above : Bool) : RssiNode :=
  match r with
  | .node n => rssiNext n above
  | .bucket j => .bucket j

theorem State.rssiStep_rssiNode (s : State) (above : Bool) :
    (s.rssiStep above).rssiNode = s.rssiNode.next above := by
  cases h : s.rssiNode with
  | node n => exact State.rssiStep_node h above
  | bucket j => rw [State.rssiStep_bucket h, h]; rfl

/-- Settles O35: the paths of the decision table. -/
theorem rssiSearchEndsInThreeSteps : Obligations.RssiSearchEndsInThreeSteps := by
  unfold Obligations.RssiSearchEndsInThreeSteps
  simp only [State.rssiStep_rssiNode]
  refine ⟨fun s a₁ a₂ a₃ h => ?_, fun s h => ?_, fun s h => ?_⟩ <;> rw [h]
  · revert a₁ a₂ a₃
    decide
  · rfl
  · rfl

/-- The comparator bit at a position, for a signal above exactly the first `j` thresholds (R258). -/
def RssiNode.aboveFirst (r : RssiNode) (j : Fin 7) : Bool :=
  match r with
  | .node n => decide (n.val < j.val)
  | .bucket _ => false

/-- Settles O36: the path of the decision table for each of the seven levels. -/
theorem rssiSearchCountsThresholds : Obligations.RssiSearchCountsThresholds := by
  unfold Obligations.RssiSearchCountsThresholds
  intro s j hs f hf
  have hstep (u : State) : (f u).rssiNode = u.rssiNode.next (u.rssiNode.aboveFirst j) := by
    rw [hf, State.rssiStep_rssiNode]
    rfl
  rw [hstep, hstep, hstep, hs]
  clear hf hstep
  revert j
  decide

/-- Settles O38: the codes of the six nodes and the seven buckets. -/
theorem rssiNodeCodesLegal : Obligations.RssiNodeCodesLegal := by
  unfold Obligations.RssiNodeCodesLegal
  refine ⟨by decide, fun r => ?_⟩
  cases r with
  | node n => revert n; decide
  | bucket j => revert j; decide

/-! ## PKTRDY without a frame, SEND, the accessors, the reserved opcodes (R98, R107, R132 to R140) -/

theorem execPktrdy_of_arm {s : State} (hf : s.frameReady = false) (hr : s.radio = .idle)
    (ha : s.avail = true) : execPktrdy s = s.armReceive.answer 0x0000 := by
  rw [execPktrdy, if_neg (ne_true_of_eq_false hf), if_pos ⟨hr, ha⟩]

theorem execPktrdy_of_nothing {s : State} (hf : s.frameReady = false)
    (h : s.radio ≠ .idle ∨ s.avail = false) : execPktrdy s = s.answer 0x0000 := by
  rw [execPktrdy, if_neg (ne_true_of_eq_false hf), if_neg]
  rintro ⟨hr, ha⟩
  simp [hr, ha] at h

/-- Settles O12: the two cases without a completed frame. -/
theorem pktrdyArmsTheReceiver : Obligations.PktrdyArmsTheReceiver := by
  unfold Obligations.PktrdyArmsTheReceiver
  refine ⟨rfl, fun s hf hr ha => (execPktrdy_of_arm hf hr ha).trans ?_,
    fun s hf h => execPktrdy_of_nothing hf h⟩
  rw [State.armReceive_eq]
  rfl

theorem sendFrame_of_claimed {s t : State} (hclaim : execCantx s = .next t)
    (hres : t.results.getLast? = some 0x0001) (hdr len : Byte) (data : List Byte) :
    sendFrame hdr len data s = execTxbegin hdr len data t := by
  rw [sendFrame, hclaim]
  exact if_pos hres

/-- Settles O16: CANTX answers 0x0001 and leaves `Idle`, where TXBEGIN starts. -/
theorem sendStartsTheTransmission : Obligations.SendStartsTheTransmission := by
  unfold Obligations.SendStartsTheTransmission
  intro hdr len data s hd hl ha hr
  obtain ⟨t, hclaim, hres, hta, htr, htc⟩ : ∃ t, execCantx s = .next t
      ∧ t.results = s.results ++ [0x0001] ∧ t.avail = true ∧ t.radio = .idle ∧ t.cfg = s.cfg :=
    ⟨_, execCantx_of_available ha hr, rfl, ha, rfl, rfl⟩
  have hsend := sendFrame_of_claimed hclaim (by simp [hres]) hdr len data
  obtain ⟨hHdr, hLen, hData, -⟩ := t.buf.read_writeFrame hdr len data
  rw [hd] at hData
  exact ⟨_, hsend.trans (execTxbegin_of_idle hdr data (htc ▸ hl) hta htr), rfl, rfl, rfl, hHdr, hLen, hData,
    by simp [hres]⟩

/-- An accessor on a written byte, and on one never written (R26). -/
theorem State.answerByte_of_some {s : State} {i : Nat} {b : Byte} (h : s.buf.read i = some b) :
    s.answerByte i = .next { s with results := s.results ++ [b.setWidth 16] } := by
  rw [State.answerByte, State.readBuf_of_read h]
  rfl

theorem State.answerByte_of_none {s : State} {i : Nat} (h : s.buf.read i = none) :
    ∃ b : Byte, s.answerByte i = .next { s with
      draws := s.draws + 1, results := s.results ++ [b.setWidth 16] } :=
  ⟨s.bufByte i, by simp [State.answerByte, State.readBuf, State.answer, h]⟩

theorem execRddata_of_lt {idx : Byte} {s : State} (h : 2 + idx.toNat < s.cfg.bufCap) :
    execRddata idx s = s.answerByte (2 + idx.toNat) := if_neg (Nat.not_le.mpr h)

/-- Settles O20: the three accessors on a written and an unwritten byte, and RDDATA's range. -/
theorem accessorsReturnBufferBytes : Obligations.AccessorsReturnBufferBytes := by
  unfold Obligations.AccessorsReturnBufferBytes
  refine ⟨fun s b => State.answerByte_of_some, fun s b => State.answerByte_of_some,
    fun idx s b hi hb => ?_, fun s => State.answerByte_of_none, fun s => State.answerByte_of_none,
    fun idx s hi hb => ?_, fun idx s hi => if_pos hi⟩
  · exact (execRddata_of_lt hi).trans (State.answerByte_of_some hb)
  · obtain ⟨b, hexec⟩ := State.answerByte_of_none hb
    exact ⟨b, (execRddata_of_lt hi).trans hexec⟩

/-- Settles O23: each reserved opcode's meaning is `refuse(RSV_OPCODE)`. -/
theorem reservedOpcodesAreRefused : Obligations.ReservedOpcodesAreRefused := by
  unfold Obligations.ReservedOpcodesAreRefused
  exact fun _ _ => ⟨rfl, rfl, rfl, rfl⟩

/-! ## Reset (R341) -/

/-- Settles O39: the fields of the reset state. -/
theorem resetLeavesTheStatedValues : Obligations.ResetLeavesTheStatedValues := by
  unfold Obligations.ResetLeavesTheStatedValues
  refine ⟨Config.resetIdent, fun p s hs => ?_⟩
  subst hs
  simp [State.resetOf, RadioState.tag, RadioState.txoff, RssiNode.code]

/-! ## Steps (R40, R130, R180 to R182) -/

theorem hostOp_of_ok {s : State} {h : Word} {d : DataPhase} {i : Instr} (hd : decodeHost h d = .ok i) :
    s.hostOp h d = exec i s := by rw [State.hostOp, hd]

theorem hostOp_of_error {s : State} {h : Word} {d : DataPhase} {c : RefusalCode}
    (hd : decodeHost h d = .error c) : s.hostOp h d = s.refuse c := by rw [State.hostOp, hd]

theorem step_host {s : State} {h : Word} {d : DataPhase} {rest : List Input} (hm : final s)
    (hi : s.inputs = .host h d :: rest) : step s = { s with inputs := rest }.hostOp h d := by
  rw [step_unmarked hm.1 hm.2, State.agentStep, hi]

theorem step_irq {s : State} {w : Half} {b : Byte} {rest : List Input} (hm : final s)
    (hi : s.inputs = .irq w b :: rest) : step s = { s with inputs := rest }.service w b := by
  rw [step_unmarked hm.1 hm.2, State.agentStep, hi]

theorem step_free {s : State} (hm : final s) (hi : s.inputs = []) : step s = s.freeService := by
  rw [step_unmarked hm.1 hm.2, State.agentStep, hi]

/-- Settles O6: the two outcomes of the decoder. -/
theorem stepRunsTheDecodedHostOperation : Obligations.StepRunsTheDecodedHostOperation := by
  unfold Obligations.StepRunsTheDecodedHostOperation
  intro s h d rest hm hi
  rw [step_host hm hi]
  exact ⟨fun i hd => hostOp_of_ok hd, fun c hd => hostOp_of_error hd⟩

/-- Settles O8: the free draws are the two draws of a service that waits. -/
theorem stepWithoutInputIsAServiceWithFreeDraws : Obligations.StepWithoutInputIsAServiceWithFreeDraws := by
  unfold Obligations.StepWithoutInputIsAServiceWithFreeDraws
  intro s hm hi
  refine ⟨Config.freeStatus s.draws, Config.freeFifo s.draws, ?_⟩
  rw [step_free hm hi, step_irq (s := { s with inputs := [.irq _ _], draws := s.draws + 1 }) hm rfl,
    State.freeService, ← hi]

/-- Settles O9: a step that answers a next state began with no mark; the codes have the values of R311 and
R313. -/
theorem markedMachineHasNoStep : Obligations.MarkedMachineHasNoStep := by
  unfold Obligations.MarkedMachineHasNoStep
  refine ⟨fun s hm t h => ?_, by decide⟩
  obtain ⟨hf, hr, -⟩ := step_next_unmarked h
  exact hm ⟨hf, hr⟩

theorem execAll_cons_stop {i : Instr} {rest : List Instr} {s : State} (h : ∀ t, exec i s ≠ .next t) :
    execAll (i :: rest) s = exec i s := by
  rw [execAll]
  split
  · exact absurd ‹_› (h _)
  · exact Eq.symm ‹_›
  · exact Eq.symm ‹_›

/-- The FIFO case of each state (R186). -/
theorem State.fifoCase_of_receiving {s : State} (hr : s.radio = .receiving) (hf : s.frameReady = false) :
    s.fifoCase = .rx := (State.fifoCase_eq_rx_iff s).mpr ⟨hr, hf⟩

theorem RadioState.ne_of_isTx {r : RadioState} (h : r.isTx = true) : r ≠ .idle ∧ r ≠ .receiving := by
  constructor <;> rintro rfl <;> cases h

theorem State.fifoCase_of_isTx {s : State} (h : s.radio.isTx = true) : s.fifoCase = .tx := by
  obtain ⟨-, hr⟩ := RadioState.ne_of_isTx h
  rw [State.fifoCase, if_neg (fun hc => hr hc.1), if_pos h]

/-- The bus operations a service begins with (R181): two in the receive case alone. -/
theorem State.readStatus_of_rx {s : State} {w : Half} (b : Byte) (hi : s.init = true)
    (hr : s.radio = .receiving) (hf : s.frameReady = false) (hw : w.extractLsb' 13 3 = 0b100) :
    s.readStatus w b = { s with busLog := s.busLog ++ [.status w, .fifoRead b] } := by
  have hcase : s.rxCase w = true := by simp [State.rxCase, hi, hr, hf, hw]
  rw [State.readStatus, if_pos hcase]
  simp [State.bus]

theorem State.readStatus_of_not_rx {s : State} {w : Half} (b : Byte)
    (h : ¬ (s.radio = .receiving ∧ s.frameReady = false ∧ w.extractLsb' 13 3 = 0b100)) :
    s.readStatus w b = { s with busLog := s.busLog ++ [.status w] } := by
  have hcase : ¬ s.rxCase w = true := fun hc => h (by simp_all [State.rxCase])
  rw [State.readStatus, if_neg hcase]
  rfl

/-- A service after the first REINIT, by its FIFO case and its first bus operations. -/
theorem State.service_of_case {s u : State} {w : Half} {b : Byte} {c : FifoCase} (hi : s.init = true)
    (hc : s.fifoCase = c) (hu : s.readStatus w b = u) :
    s.service w b = execAll (statusEvents w b c) u := by
  rw [State.service, if_pos hi, hc, hu]

/-- Settles O7: the laws of `execAll`, then the service by the case of the state. -/
theorem stepRunsTheService : Obligations.StepRunsTheService := by
  unfold Obligations.StepRunsTheService
  refine ⟨execAll_nil, fun i rest s t h => execAll_cons_next h, fun i rest s h => execAll_cons_stop h,
    fun s w b rest hm hin => ?_⟩
  rw [step_irq hm hin]
  refine ⟨fun hi => ?_, fun hi hr hf hw => ?_, fun hi hr hf hw => ?_, fun hi hr => ?_, fun hi hr => ?_⟩
  · obtain ⟨-, h⟩ | ⟨hi', -⟩ := State.service_cases { s with inputs := rest } w b
    · exact h
    · cases hi.symm.trans hi'
  · exact State.service_of_case hi (State.fifoCase_of_receiving hr hf) (State.readStatus_of_rx b hi hr hf hw)
  · exact State.service_of_case hi (State.fifoCase_of_receiving hr hf)
      (State.readStatus_of_not_rx b fun ⟨_, _, hw'⟩ => hw hw')
  · obtain ⟨-, hne⟩ := RadioState.ne_of_isTx hr
    exact State.service_of_case hi (State.fifoCase_of_isTx hr)
      (State.readStatus_of_not_rx b fun ⟨hr', _, _⟩ => hne hr')
  · exact State.service_of_case hi (State.fifoCase_of_ignored hr)
      (State.readStatus_of_ignored (s := { s with inputs := rest }) hr w b)

end Sys2Proof.Machine

/-! PROOFS. What every step keeps: the passage from instructions to steps, and the invariant of R41 with the
model's own parts. -/

namespace Sys2Proof.Machine

open Sys2Proof.Safety

/-! ## From instructions to services and steps -/

/-- An instruction the HOST can issue: what some command word decodes to (R130). -/
def Issued (i : Instr) : Prop := i.wf = true ∧ ∃ h d, encode i = .host h d

/-- An event a service can report in this state (R181, R182, R186). -/
def Triggered (s : State) (i : Instr) : Prop :=
  match i with
  | .evPor _ => s.init = true
  | .evFifoRx _ _ => s.radio = .receiving ∧ s.frameReady = false
  | .evFifoTx _ => s.radio.isTx = true
  | .evOvf _ | .evWake _ | .evFifoIgn _ | .evNone _ => True
  | _ => False

theorem issued_of_decodeHost {h : Word} {d : DataPhase} {i : Instr} (hd : decodeHost h d = .ok i) :
    Issued i := by
  obtain ⟨hwf, d', he, -⟩ := encode_of_decodeHost hd
  exact ⟨hwf, h, d', he⟩

/-- No agent of the spec sends a raw device word (log 9). -/
theorem not_bus_of_issued {i : Instr} (h : Issued i) : ¬ ∃ v, encode i = .bus v := by
  rintro ⟨v, hv⟩
  obtain ⟨-, h', d, he⟩ := h
  cases he.symm.trans hv

theorem not_bus_of_triggered {s : State} {i : Instr} (h : Triggered s i) : ¬ ∃ v, encode i = .bus v := by
  rintro ⟨v, hv⟩
  cases i with
  | evPor | evWake | evOvf | evFifoRx | evFifoTx | evFifoIgn | evNone => cases hv
  | _ => exact h

theorem State.isTx_of_fifoCase {s : State} (h : s.fifoCase = .tx) : s.radio.isTx = true := by
  unfold State.fifoCase at h
  split at h
  · cases h
  · split at h
    · assumption
    · cases h

/-- The events of a service after the first REINIT are triggered in its state. -/
theorem triggered_of_mem {s : State} {w : Half} {b : Byte} {i : Instr} (hi : s.init = true)
    (h : i ∈ statusEvents w b s.fifoCase) : Triggered s i := by
  obtain ⟨rfl, -⟩ | ⟨rfl, -⟩ | ⟨rfl, -⟩ | ⟨rfl, -⟩ | ⟨rfl, -⟩ := (mem_statusEvents_iff i w b _).mp h
  · exact hi
  · trivial
  · cases hc : s.fifoCase with
    | rx => exact s.fifoCase_eq_rx_iff.mp hc
    | tx => exact State.isTx_of_fifoCase hc
    | ignored => trivial
  · trivial
  · trivial

/-- A service executes one event, and a WAKE after it in some cases (R182). -/
theorem statusEvents_shape (w : Half) (b : Byte) (c : FifoCase) :
    ∃ i, statusEvents w b c = [i] ∨ statusEvents w b c = [i, .evWake w] := by
  obtain h | h | h | h | h | h | h := statusEvents_cases w b c
  · exact ⟨_, .inl h⟩
  · exact ⟨_, .inl h⟩
  · exact ⟨_, .inr h⟩
  · exact ⟨_, .inl h⟩
  · exact ⟨_, .inr h⟩
  · exact ⟨_, .inl h⟩
  · exact ⟨_, .inl h⟩

theorem execAll_singleton (i : Instr) (s : State) : execAll [i] s = exec i s := by
  rw [execAll]
  cases exec i s <;> rfl

theorem triggered_readStatus (s : State) (w : Half) (b : Byte) (i : Instr) :
    Triggered (s.readStatus w b) i ↔ Triggered s i := by
  simp only [Triggered, State.readStatus_init, State.readStatus_radio, State.readStatus_frameReady]

/-- What a service's `STATUS` read and every triggered event keep, the service keeps. -/
theorem service_keeps {P : State → Prop} {s t : State} {w : Half} {b : Byte}
    (hexec : ∀ u i v, Triggered u i → P u → exec i u = .next v → P v)
    (hs : P (s.readStatus w b)) (h : s.service w b = .next t) : P t := by
  unfold State.service at h
  split at h
  · rename_i hi
    obtain ⟨i, hev⟩ := statusEvents_shape w b s.fifoCase
    have hmem : i ∈ statusEvents w b s.fifoCase := by rcases hev with hev | hev <;> simp [hev]
    have htrig := triggered_of_mem hi hmem
    have htrig' := (triggered_readStatus s w b i).mpr htrig
    obtain hev | hev := hev <;> rw [hev] at h
    · rw [execAll_singleton] at h
      exact hexec _ i t htrig' hs h
    · obtain ⟨u, hu, h⟩ := execAll_cons_inv h
      rw [execAll_singleton] at h
      exact hexec u (.evWake w) t trivial (hexec _ i u htrig' hs hu) h
  · cases h
    exact hs

/-- What does not depend on the waiting inputs, the draw counter and the refusal mark, and is kept by the
`STATUS` read of a service and by every instruction that can run, is kept by every step. -/
theorem step_keeps {P : State → Prop} {s t : State}
    (hblind : ∀ (u : State) (is : List Input) (n : Nat) (m : Option RefusalCode), (∀ x ∈ is, x ∈ u.inputs) →
      P u → P { u with inputs := is, draws := n, refusedMark := m })
    (hstatus : ∀ u w b, P u → P (u.readStatus w b))
    (hexec : ∀ u i v, Issued i ∨ Triggered u i ∨ (∃ w, .bus w ∈ s.inputs) → P u → exec i u = .next v → P v)
    (hs : P s) (h : step s = .next t) : P t := by
  obtain ⟨-, -, hagent⟩ := step_next_unmarked h
  have htake {x : Input} {rest : List Input} (hin : s.inputs = x :: rest) : P { s with inputs := rest } :=
    hblind s rest s.draws s.refusedMark (fun y hy => by simp [hin, hy]) hs
  have htrig (u i v) (hu : Triggered u i) := hexec u i v (.inr (.inl hu))
  obtain ⟨hin, ha⟩ | ⟨c, d, rest, hin, ha⟩ | ⟨w, b, rest, hin, ha⟩ | ⟨w, rest, hin, ha⟩ :=
    s.agentStep_cases <;> rw [ha] at hagent
  · exact service_keeps htrig
      (hstatus _ _ _ (hblind s s.inputs (s.draws + 1) s.refusedMark (fun _ hx => hx) hs)) hagent
  · obtain ⟨i, hd, hop⟩ | ⟨r, -, hop⟩ := State.hostOp_cases { s with inputs := rest } c d <;>
      rw [hop] at hagent
    · exact hexec _ i t (.inl (issued_of_decodeHost hd)) (htake hin) hagent
    · cases hagent
      exact hblind _ rest s.draws (some r) (fun _ hx => hx) (htake hin)
  · exact service_keeps htrig (hstatus _ _ _ (htake hin)) hagent
  · unfold State.busWord at hagent
    split at hagent
    · exact hexec _ _ t (.inr (.inr ⟨w, by simp [hin]⟩)) (htake hin) hagent
    · cases hagent

end Sys2Proof.Machine

namespace Sys2Proof.Safety

open Sys2Proof.Machine

/-! ## The invariant at reset -/

/-- Settles O40: at reset the core is in `Idle` with both mirrors off, nothing stored and nothing waiting. -/
theorem resetMeetsTheInvariant : Obligations.ResetMeetsTheInvariant := by
  have hreset (p : Params) (hp : p.wf) : Inv (State.resetOf p) :=
    { latched := by intro h; cases h
      latchedTx := by intro h; cases h
      receiving := by intro h; cases h
      transmitting := by intro h; cases h
      idle := fun _ => ⟨rfl, rfl⟩
      unavailable := fun _ => rfl
      payload := by intro k h; cases h
      cursor := Nat.zero_le _
      notComplete := by intro h; cases h
      declared := by rintro (h | h | h) <;> cases h
      stored := by intro h; cases h
      searching := by intro h; cases h
      initialised := by intro h; cases h
      bufWf := resetOf_bufWf p
      bufRange := by intro x h; cases h
      params := hp
      agents := by intro x h; cases h }
  exact ⟨hreset, hreset Params.default (by decide)⟩

/-! ## States that agree in what the invariant speaks of -/

/-- The invariant does not speak of the identity, the checksums, the settings and latches of wake and accept,
the log, the marks, the results and the draw counter. -/
theorem Inv.congr {s t : State} (h : Inv s) (ht : t = { s with
      ident := t.ident, crc := t.crc, crcSnap := t.crcSnap, acceptBroken := t.acceptBroken, wakeEn := t.wakeEn
      wakeM := t.wakeM, wakeE := t.wakeE, woke := t.woke, busLog := t.busLog, faultMark := t.faultMark
      refusedMark := t.refusedMark, inputs := t.inputs, results := t.results, draws := t.draws })
    (hin : ∀ x ∈ t.inputs, x ∈ s.inputs) : Inv t := by
  have hag : ∀ x ∈ t.inputs, ∀ w, x ≠ .bus w := fun x hx => h.agents x (hin x hx)
  rw [ht]
  exact ⟨h.latched, h.latchedTx, h.receiving, h.transmitting, h.idle, h.unavailable, h.payload, h.cursor,
    h.notComplete, h.declared, h.stored, h.searching, h.initialised, h.bufWf, h.bufRange, h.params, hag⟩

theorem Inv.readStatus {s : State} (h : Inv s) (w : Half) (b : Byte) : Inv (s.readStatus w b) := by
  unfold State.readStatus
  split <;> exact h.congr rfl fun _ hx => hx

/-- Coming to `Idle` with no frame and both mirrors off keeps the invariant (R131, R133, R135, R183, R185,
R198). -/
theorem Inv.of_idle {s t : State} (h : Inv s) (hr : t.radio = .idle) (hf : t.frameReady = false)
    (hon : t.rxOn = false ∧ t.txOn = false) (ha : t.avail = true → t.init = true)
    (hc : t.cursor.toNat ≤ s.cfg.bufCap) (hbuf : t.buf = s.buf) (hcfg : t.cfg = s.cfg)
    (hin : t.inputs = s.inputs) : Inv t where
  latched := by simp [hf]
  latchedTx := by simp [hf]
  receiving := by simp [hr]
  transmitting := by simp [hr, RadioState.isTx]
  idle := fun _ => hon
  unavailable := fun _ => hr
  payload := by simp [payloadInFrame, hr]
  cursor := hcfg ▸ hc
  notComplete := by simp [hr]
  declared := by simp [hr]
  stored := by simp [hr]
  searching := by simp [hr]
  initialised := ha
  bufWf := hbuf ▸ h.bufWf
  bufRange := by rw [hbuf, hcfg]; exact h.bufRange
  params := hcfg ▸ h.params
  agents := hin ▸ h.agents

theorem Inv.frameReady_eq_false {s : State} (h : Inv s) (hr : s.radio ≠ .receiving) :
    s.frameReady = false := by
  by_contra hf
  exact hr (h.latched (Bool.not_eq_false _ ▸ hf)).1

theorem Inv.avail_eq_true {s : State} (h : Inv s) (hr : s.radio ≠ .idle) : s.avail = true := by
  by_contra ha
  exact hr (h.unavailable (Bool.not_eq_true _ ▸ ha))

theorem Inv.bufCap_pos {s : State} (h : Inv s) : 5 ≤ s.cfg.bufCap ∧ s.cfg.bufCap ≤ 130 := by
  obtain ⟨hmin, hmax⟩ := h.params
  unfold Params.bufCap
  omega

/-- An armed receiver (R132), as PKTRDY and the overflow service leave it. -/
theorem Inv.armReceive {s : State} (h : Inv s) (hf : s.frameReady = false) (ha : s.avail = true) :
    Inv s.armReceive where
  latched := by simp [hf]
  latchedTx := by simp
  receiving := by simp
  transmitting := by simp [RadioState.isTx]
  idle := by simp
  unavailable := by simp [ha]
  payload := by simp [payloadInFrame]
  cursor := Nat.zero_le _
  notComplete := by
    intro _ _ l _
    obtain ⟨hcap, -⟩ := h.bufCap_pos
    rw [← Bool.not_eq_true, completeWith_iff]
    simp
    omega
  declared := by simp
  stored := by simp
  searching := by simp [searchLeft]
  initialised := h.initialised
  bufWf := h.bufWf
  bufRange := h.bufRange
  params := h.params
  agents := h.agents

/-! ## A received byte (R187) -/

theorem searchLeft_next (r : RssiNode) (above : Bool) : searchLeft (r.next above) ≤ searchLeft r - 1 := by
  cases r with
  | node n => revert n above; decide
  | bucket j => exact Nat.zero_le _

/-- Storing a byte at the cursor inside the buffer keeps the invariant, whether the frame goes on or is
complete. -/
theorem Inv.of_received {s t : State} {b : Byte} {above : Bool} (h : Inv s) (hr : s.radio = .receiving)
    (hc : s.cursor.toNat < s.cfg.bufCap) (hradio : t.radio = s.radio)
    (hbuf : t.buf = s.buf.write s.cursor.toNat b) (hcur : t.cursor = s.cursor + 1)
    (hnode : t.rssiNode = s.rssiNode.next above) (hinit : t.init = s.init) (havail : t.avail = s.avail)
    (hcfg : t.cfg = s.cfg) (hin : t.inputs = s.inputs)
    (hdone : t.frameReady = true → t.rxOn = false ∧ t.txOn = false)
    (hgoing : t.frameReady = false → (t.rxOn = true ∧ t.txOn = false) ∧ incomplete t) : Inv t where
  latched := fun hf => ⟨hradio.trans hr, (hdone hf).1⟩
  latchedTx := fun hf => (hdone hf).2
  receiving := fun _ hf => (hgoing hf).1
  transmitting := by simp [hradio, hr, RadioState.isTx]
  idle := by simp [hradio, hr]
  unavailable := by simp [havail, h.avail_eq_true (s := s) (by simp [hr])]
  payload := by simp [payloadInFrame, hradio, hr]
  cursor := by rw [hcur, hcfg, cursor_succ_toNat h.params hc]; exact hc
  notComplete := fun _ hf => (hgoing hf).2
  declared := by simp [hradio, hr]
  stored := by
    intro _ i hi
    rw [hcur, cursor_succ_toNat h.params hc] at hi
    rw [hbuf, Memory.read_write]
    split
    · rfl
    · exact h.stored hr i (by omega)
  searching := by
    intro _
    have hnext := searchLeft_next s.rssiNode above
    have hleft := h.searching hr
    rw [hnode, hcur, cursor_succ_toNat h.params hc]
    omega
  initialised := by rw [havail, hinit]; exact h.initialised
  bufWf := hbuf ▸ Memory.write_wf h.bufWf _ _
  bufRange := by
    intro x hx
    rw [hcfg]
    obtain rfl | hx := Memory.mem_write (hbuf ▸ hx)
    · exact hc
    · exact h.bufRange x hx
  params := hcfg ▸ h.params
  agents := hin ▸ h.agents

/-- While a frame is being received the cursor is inside the buffer (I-h, I-i). -/
theorem Inv.cursor_lt {s : State} (h : Inv s) (hr : s.radio = .receiving) (hf : s.frameReady = false) :
    s.cursor.toNat < s.cfg.bufCap := by
  refine lt_of_le_of_ne h.cursor fun hcap => ?_
  have hread : 2 ≤ s.cursor.toNat → s.buf.read 1 = some ((s.buf.read 1).getD 0) := by
    intro h2
    obtain ⟨l, hl⟩ := Option.isSome_iff_exists.mp (h.stored hr 1 (by omega))
    rw [hl]
    rfl
  have hincomplete := h.notComplete hr hf _ hread
  rw [← Bool.not_eq_true, completeWith_iff] at hincomplete
  exact hincomplete (.inr hcap)

/-- A receive service that does not complete the frame leaves the completion predicate false (I-i). -/
theorem incomplete_of_frameComplete {s : State} (h : s.frameComplete.1 = false) : incomplete s := by
  intro l hl
  rwa [State.frameComplete_of_length hl] at h

theorem Inv.receive {s : State} {w : Half} {b : Byte} (h : Inv s) (n : Nat) (hr : s.radio = .receiving)
    (hf : s.frameReady = false) (hd : (s.receiveByte w b).frameComplete.1 = false) :
    Inv { s.receiveByte w b with draws := n } := by
  have hincomplete : incomplete (s.receiveByte w b) := incomplete_of_frameComplete hd
  refine h.of_received (b := b) hr (h.cursor_lt hr hf) ?_ ?_ ?_ (State.rssiStep_rssiNode _ _) ?_ ?_ ?_ ?_ ?_
    fun _ => ⟨?_, hincomplete⟩
  all_goals simp [hf, h.receiving hr hf]

theorem Inv.complete {s : State} {w : Half} {b : Byte} (h : Inv s) (n : Nat) (hr : s.radio = .receiving)
    (hf : s.frameReady = false) : Inv { s.receiveByte w b with draws := n }.finishFrame := by
  refine h.of_received (b := b) hr (h.cursor_lt hr hf) ?_ ?_ ?_ (State.rssiStep_rssiNode _ _)
    ?_ ?_ ?_ ?_ ?_ ?_
  all_goals simp

/-! ## The transmit chain (R190 to R198) -/

/-- A move inside the transmit chain that touches nothing else the invariant speaks of. -/
theorem Inv.of_tx {s t : State} {r : RadioState} (h : Inv s) (hs : s.radio.isTx = true)
    (hr : r.isTx = true) (ht : t = { s with
      radio := r, crc := t.crc, busLog := t.busLog, draws := t.draws })
    (hpay : payloadInFrame t)
    (hdecl : r = .txPreamble ∨ r = .txSync1 ∨ r = .txSync2 → frameDeclared s) : Inv t := by
  obtain ⟨hidle, hrcv⟩ := RadioState.ne_of_isTx hr
  obtain ⟨hsidle, hsrcv⟩ := RadioState.ne_of_isTx hs
  have hf := h.frameReady_eq_false hsrcv
  have ha := h.avail_eq_true hsidle
  rw [ht] at hpay ⊢
  exact
    { latched := by simp [hf]
      latchedTx := by simp [hf]
      receiving := fun hr => absurd hr hrcv
      transmitting := fun _ => h.transmitting hs
      idle := fun hr => absurd hr hidle
      unavailable := by simp [ha]
      payload := hpay
      cursor := h.cursor
      notComplete := fun hr => absurd hr hrcv
      declared := hdecl
      stored := fun hr => absurd hr hrcv
      searching := fun hr => absurd hr hrcv
      initialised := h.initialised
      bufWf := h.bufWf
      bufRange := h.bufRange
      params := h.params
      agents := h.agents }

theorem isTx_of_txRule {s : State} {b : Byte} {r : RadioState} {c : Half} (h : TxRule s b r c) :
    s.radio.isTx = true ∧ r.isTx = true := by
  cases h with
  | payload k b hr => exact ⟨by rw [hr]; rfl, by split <;> rfl⟩
  | _ hr => exact ⟨by rw [hr]; rfl, rfl⟩

/-- The next transmit offset, as a signed number. -/
theorem txOffset_succ_toInt {k : BitVec 8} (hk : k.toInt ≤ -1) (hne : k + 1 ≠ 0) :
    (k + 1).toInt = k.toInt + 1 := by
  revert k
  decide

/-- The states of the chain that are ahead of, or in, the payload (I-f and its part before `TxPayload`). -/
theorem Inv.txRule {s : State} {b : Byte} {r : RadioState} {c : Half} (h : Inv s) (hrule : TxRule s b r c) :
    (∀ k, r = .txPayload k → ∃ l : Byte, s.buf.read 1 = some l ∧ l.toNat ≤ s.cfg.maxPayload
      ∧ -(2 + (l.toNat : Int)) ≤ k.toInt ∧ k.toInt ≤ -1)
    ∧ (r = .txPreamble ∨ r = .txSync1 ∨ r = .txSync2 → frameDeclared s) := by
  obtain ⟨-, hmax⟩ := h.params
  cases hrule with
  | preamble hr => exact ⟨by simp, fun _ => h.declared (.inl hr)⟩
  | sync1 hr => exact ⟨by simp, fun _ => h.declared (.inr (.inl hr))⟩
  | sync2 hr =>
    obtain ⟨l, hread, hl⟩ := h.declared (.inr (.inr hr))
    refine ⟨?_, by simp⟩
    rintro k ⟨⟩
    have hstart := txStart_toInt (hl.trans hmax)
    rw [State.bufByte_of_read hread]
    exact ⟨l, hread, hl, by omega, by omega⟩
  | payload k _ hr =>
    obtain ⟨l, hread, hl, hlow, hhigh⟩ := h.payload k hr
    split
    · exact ⟨by simp, by simp⟩
    · rename_i hne
      refine ⟨?_, by simp⟩
      rintro _ ⟨⟩
      have hsucc := txOffset_succ_toInt hhigh hne
      have hlast := mt (txOffset_last_iff k).mpr hne
      exact ⟨l, hread, hl, by omega, by omega⟩
  | _ => exact ⟨by simp, by simp⟩

theorem Inv.emit {s : State} {b : Byte} {r : RadioState} {c : Half} (h : Inv s) (n : Nat)
    (hrule : TxRule s b r c) : Inv { s.emit b r with draws := n, crc := c } := by
  obtain ⟨hs, hr⟩ := isTx_of_txRule hrule
  obtain ⟨hpay, hdecl⟩ := h.txRule hrule
  exact h.of_tx hs hr rfl hpay hdecl

/-- A started transmission (R136): the frame is declared, and fits the buffer. -/
theorem Inv.start {s t : State} {hdr len : Byte} {data : List Byte} (h : Inv s) (hr : s.radio = .idle)
    (ha : s.avail = true) (hd : data.length = len.toNat) (hl : len.toNat ≤ s.cfg.maxPayload)
    (ht : t = { s with
      buf := s.buf.writeAll 0 (hdr :: len :: data), radio := .txPreamble, rxOn := false, txOn := true
      crc := t.crc, busLog := t.busLog, results := t.results }) : Inv t := by
  have hf := h.frameReady_eq_false (s := s) (by simp [hr])
  obtain ⟨-, hread, -⟩ := s.buf.read_writeFrame hdr len data
  rw [ht]
  exact
    { latched := by simp [hf]
      latchedTx := by simp [hf]
      receiving := by simp
      transmitting := by simp
      idle := by simp
      unavailable := by simp [ha]
      payload := by simp [payloadInFrame]
      cursor := h.cursor
      notComplete := by simp
      declared := fun _ => ⟨len, hread, hl⟩
      stored := by simp
      searching := by simp
      initialised := h.initialised
      bufWf := Memory.writeAll_wf h.bufWf _ _
      bufRange := by
        intro x hx
        obtain ⟨-, hx⟩ | hx := Memory.mem_writeAll hx
        · have hlen : x.1 ≤ len.toNat + 1 := by simpa [hd] using hx
          simp only [Params.bufCap]
          omega
        · exact h.bufRange x hx
      params := h.params
      agents := h.agents }

/-! ## Every step -/

/-- Every instruction that an agent of the spec can run keeps the invariant. -/
theorem Inv.exec {s t : State} {i : Instr} (h : Inv s) (hrun : Issued i ∨ Triggered s i)
    (hexec : exec i s = .next t) : Inv t := by
  have hbus : ¬ ∃ v, encode i = .bus v := hrun.elim not_bus_of_issued not_bus_of_triggered
  cases exec_effect hexec with
  | fault | refuse | answer | keep | wakeOff | wakeArm | woke | setbrk | wake =>
    exact h.congr rfl fun _ hx => hx
  | reinit => exact h.of_idle rfl rfl ⟨rfl, rfl⟩ (by simp) (Nat.zero_le _) rfl rfl rfl
  | deliver n r hf =>
    exact h.of_idle rfl rfl ⟨(h.latched hf).2, h.latchedTx hf⟩ h.initialised h.cursor rfl rfl rfl
  | arm hf _ ha => exact (h.armReceive hf ha).congr rfl fun _ hx => hx
  | claim => exact h.of_idle rfl rfl ⟨rfl, rfl⟩ h.initialised (Nat.zero_le _) rfl rfl rfl
  | start hl ha hr =>
    obtain ⟨hwf, -⟩ := hrun.resolve_right id
    exact h.start hr ha (beq_iff_eq.mp hwf) hl rfl
  | por =>
    have hinit : s.init = true := hrun.resolve_left fun ⟨_, _, _, he⟩ => by cases he
    exact h.of_idle rfl rfl ⟨rfl, rfl⟩ (fun _ => hinit) (Nat.zero_le _) rfl rfl rfl
  | rearm hr hf =>
    exact (h.armReceive hf (h.avail_eq_true (by simp [hr]))).congr rfl fun _ hx => hx
  | abort hr =>
    exact h.of_idle rfl (h.frameReady_eq_false (RadioState.ne_of_isTx hr).2) ⟨rfl, rfl⟩ h.initialised h.cursor
      rfl rfl rfl
  | receive n _ hd =>
    obtain ⟨hr, hf⟩ : s.radio = .receiving ∧ s.frameReady = false :=
      hrun.resolve_left fun ⟨_, _, _, he⟩ => by cases he
    exact h.receive n hr hf hd
  | complete n =>
    obtain ⟨hr, hf⟩ : s.radio = .receiving ∧ s.frameReady = false :=
      hrun.resolve_left fun ⟨_, _, _, he⟩ => by cases he
    exact h.complete n hr hf
  | emit n hrule => exact h.emit n hrule
  | txDone hr =>
    exact h.of_idle rfl (h.frameReady_eq_false (by simp [hr])) ⟨rfl, rfl⟩ h.initialised h.cursor rfl rfl rfl
  | device e he => exact absurd he hbus
  | status v => exact absurd ⟨_, rfl⟩ hbus

/-- With the invariant, a property that speaks neither of the log, the inputs, the refusal mark nor the draw
counter, and that every instruction an agent can run keeps, is kept by every step. -/
theorem Inv.step_keeps {P : State → Prop} {s t : State} (h : Inv s) (hs : P s)
    (hblind : ∀ (u : State) (is : List Input) (n : Nat) (m : Option RefusalCode) (l : List BusEntry), P u →
      P { u with inputs := is, draws := n, refusedMark := m, busLog := l })
    (hexec : ∀ u i v, Inv u → P u → Issued i ∨ Triggered u i → Machine.exec i u = .next v → P v)
    (hstep : step s = .next t) : Inv t ∧ P t := by
  refine Machine.step_keeps (P := fun u => Inv u ∧ P u) ?_ ?_ ?_ ⟨h, hs⟩ hstep
  · exact fun u is n m his ⟨hu, hp⟩ => ⟨hu.congr rfl his, hblind u is n m u.busLog hp⟩
  · refine fun u w b ⟨hu, hp⟩ => ⟨hu.readStatus w b, ?_⟩
    unfold State.readStatus
    split <;> exact hblind u u.inputs u.draws u.refusedMark _ hp
  · rintro u i v hrun ⟨hu, hp⟩ huv
    have hrun' : Issued i ∨ Triggered u i := by
      obtain hi | hi | ⟨w, hw⟩ := hrun
      · exact .inl hi
      · exact .inr hi
      · exact absurd rfl (h.agents _ hw w)
    exact ⟨hu.exec hrun' huv, hexec u i v hu hp hrun' huv⟩

theorem Inv.step {s t : State} (h : Inv s) (hstep : step s = .next t) : Inv t :=
  (h.step_keeps (P := fun _ => True) trivial (fun _ _ _ _ _ => id) (fun _ _ _ _ hp _ _ => hp) hstep).1

/-- Settles O41. -/
theorem stepKeepsTheInvariant : Obligations.StepKeepsTheInvariant :=
  fun _ _ h hstep => h.step hstep

/-! ## Every state has a step (R301) -/

/-- The frame-buffer index of a transmit position inside the frame, on integers (R193). -/
theorem txIndex_toInt {l : Byte} {k : BitVec 8} (hl : l.toNat ≤ 126)
    (hlow : -(2 + (l.toNat : Int)) ≤ k.toInt) (hhigh : k.toInt ≤ -1) :
    (txIndex l k : Int) = 2 + l.toNat + k.toInt := by
  have hi : ((2 + l.toNat + k.toInt).toNat : Int) = 2 + l.toNat + k.toInt := Int.toNat_of_nonneg (by omega)
  rw [txIndex_eq hl hhigh hi, hi]

theorem Inv.txIndex_lt {s : State} {k : BitVec 8} (h : Inv s) (hr : s.radio = .txPayload k) :
    txIndex (s.bufByte 1) k < s.cfg.bufCap := by
  obtain ⟨-, hmax⟩ := h.params
  obtain ⟨l, hread, hl, hlow, hhigh⟩ := h.payload k hr
  have hindex := txIndex_toInt (hl.trans hmax) hlow hhigh
  rw [State.bufByte_of_read hread, Params.bufCap]
  omega

/-- The transmit chain stops nowhere, because its index is inside the buffer (I-f). -/
theorem Inv.execEvFifoTx_next {s : State} (h : Inv s) : ∃ t, execEvFifoTx s = .next t := by
  cases hr : s.radio with
  | txPayload k => exact ⟨_, (execEvFifoTx_of_txPayload hr).trans (if_pos (h.txIndex_lt hr))⟩
  | _ => exact ⟨_, by rw [execEvFifoTx, hr]⟩

/-- Every instruction that an agent of the spec can run has a next state: no branch but those of a bad index
stops. -/
theorem Inv.exec_next {s : State} {i : Instr} (h : Inv s) (hrun : Issued i ∨ Triggered s i) :
    ∃ t, Machine.exec i s = .next t := by
  cases i with
  | evFifoRx w b =>
    obtain ⟨hr, hf⟩ : s.radio = .receiving ∧ s.frameReady = false :=
      hrun.resolve_left fun ⟨_, _, _, he⟩ => by cases he
    exact ⟨_, execEvFifoRx_of_cursor (h.cursor_lt hr hf) w b⟩
  | evFifoTx w => exact h.execEvFifoTx_next
  | reinit =>
    simp only [Machine.exec, execReinit]
    split <;> exact ⟨_, rfl⟩
  | pktrdy =>
    simp only [Machine.exec, execPktrdy]
    split
    · exact ⟨_, rfl⟩
    · split <;> exact ⟨_, rfl⟩
  | cantx =>
    simp only [Machine.exec, execCantx]
    split <;> exact ⟨_, rfl⟩
  | txbegin =>
    simp only [Machine.exec, execTxbegin]
    split
    · exact ⟨_, rfl⟩
    · split <;> exact ⟨_, rfl⟩
  | sleep =>
    simp only [Machine.exec, execSleep]
    split
    · exact ⟨_, rfl⟩
    · split <;> exact ⟨_, rfl⟩
  | rddata =>
    simp only [Machine.exec, execRddata]
    split <;> exact ⟨_, rfl⟩
  | evOvf =>
    simp only [Machine.exec, execEvOvf]
    split
    · exact ⟨_, rfl⟩
    · split <;> exact ⟨_, rfl⟩
  | _ => exact ⟨_, rfl⟩

theorem Inv.service_next {s : State} (h : Inv s) (w : Half) (b : Byte) : ∃ t, s.service w b = .next t := by
  obtain ⟨-, hs⟩ | ⟨hi, hs⟩ := s.service_cases w b
  · exact ⟨_, hs⟩
  · obtain ⟨i, hev⟩ := statusEvents_shape w b s.fifoCase
    have hmem : i ∈ statusEvents w b s.fifoCase := by rcases hev with hev | hev <;> simp [hev]
    have htrig := (triggered_readStatus s w b i).mpr (triggered_of_mem hi hmem)
    obtain ⟨t, ht⟩ := (h.readStatus w b).exec_next (.inr htrig)
    rw [hs]
    obtain hev | hev := hev <;> rw [hev, execAll_cons_next ht]
    · exact ⟨t, rfl⟩
    · exact ⟨_, rfl⟩

theorem Inv.withInputs {s : State} (h : Inv s) {is : List Input} (his : ∀ x ∈ is, x ∈ s.inputs) :
    Inv { s with inputs := is } := h.congr rfl his

/-- Settles O42: whichever agent moves next, its instructions have a next state. -/
theorem invariantStateAlwaysHasAStep : Obligations.InvariantStateAlwaysHasAStep := by
  unfold Obligations.InvariantStateAlwaysHasAStep
  intro s h hm
  cases hin : s.inputs with
  | nil =>
    rw [step_free hm hin]
    exact (h.congr (t := { s with draws := s.draws + 1 }) rfl fun _ hx => hx).service_next _ _
  | cons x rest =>
    have hrest : Inv { s with inputs := rest } := h.withInputs fun y hy => by simp [hin, hy]
    cases x with
    | host c d =>
      rw [step_host hm hin]
      obtain ⟨i, hd, hop⟩ | ⟨r, -, hop⟩ := State.hostOp_cases { s with inputs := rest } c d
      · rw [hop]
        exact hrest.exec_next (.inl (issued_of_decodeHost hd))
      · exact ⟨_, hop⟩
    | irq w b =>
      rw [step_irq hm hin]
      exact hrest.service_next w b
    | bus w => exact absurd rfl (h.agents (.bus w) (by simp [hin]) w)

/-! ## The receive checksum domain (R233) -/

theorem framePrefix_congr {s t : State} {n : Nat} (h : ∀ i < n, t.buf.read i = s.buf.read i) :
    framePrefix t n = framePrefix s n :=
  List.map_congr_left fun i hi => by rw [h i (List.mem_range.mp hi)]

theorem framePrefix_succ (s : State) (n : Nat) :
    framePrefix s (n + 1) = framePrefix s n ++ [(s.buf.read n).getD 0] := by
  simp [framePrefix, List.range_succ]

/-- The domain speaks of these fields only. -/
theorem rxChecksum_congr {s t : State} (h : rxChecksum s) (hr : t.radio = s.radio) (hc : t.crc = s.crc)
    (hid : t.ident = s.ident) (hbuf : t.buf = s.buf) (hcur : t.cursor = s.cursor)
    (hf : t.frameReady = s.frameReady) (hsnap : t.crcSnap = s.crcSnap) : rxChecksum t := by
  unfold rxChecksum framePrefix at h ⊢
  rwa [hr, hc, hid, hbuf, hcur, hf, hsnap]

/-- Outside a receive session with no frame waiting there is nothing to keep. -/
theorem rxChecksum_of_not_receiving {t : State} (hr : t.radio ≠ .receiving) (hf : t.frameReady = false) :
    rxChecksum t := ⟨fun h => absurd h hr, fun h => by simp [hf] at h⟩

/-- A freshly armed receiver has fed the group id alone (R132). -/
theorem rxChecksum_armReceive {s : State} (hf : s.frameReady = false) : rxChecksum s.armReceive :=
  ⟨fun _ => rfl, fun h => by simp [hf] at h⟩

/-- The received byte is fed after the ones before it. -/
theorem rxChecksum_received {s t : State} {b : Byte} (h : Inv s) (hx : rxChecksum s)
    (hr : s.radio = .receiving) (hf : s.frameReady = false) (hc : t.crc = crc16Update s.crc b)
    (hid : t.ident = s.ident) (hbuf : t.buf = s.buf.write s.cursor.toNat b)
    (hcur : t.cursor = s.cursor + 1) (hsnap : t.frameReady = true → t.crcSnap = t.crc) : rxChecksum t := by
  refine ⟨fun _ => ?_, hsnap⟩
  have hbefore : framePrefix t s.cursor.toNat = framePrefix s s.cursor.toNat :=
    framePrefix_congr fun i hi => by rw [hbuf, Memory.read_write_other _ _ (by omega)]
  rw [hcur, cursor_succ_toNat h.params (h.cursor_lt hr hf), framePrefix_succ, hbefore, hid, hc, hx.1 hr,
    hbuf, Memory.read_write_same]
  exact (crcFold_concat crcSeed (s.ident.groupId :: framePrefix s s.cursor.toNat) b).symm

theorem rxChecksum_exec {s t : State} {i : Instr} (h : Inv s) (hx : rxChecksum s)
    (hrun : Issued i ∨ Triggered s i) (hexec : exec i s = .next t) : rxChecksum t := by
  have hbus : ¬ ∃ v, encode i = .bus v := hrun.elim not_bus_of_issued not_bus_of_triggered
  cases exec_effect hexec with
  | fault | refuse | answer | keep | wakeOff | wakeArm | woke | setbrk | wake =>
    exact rxChecksum_congr hx rfl rfl rfl rfl rfl rfl rfl
  | reinit | deliver | claim | por => exact rxChecksum_of_not_receiving nofun rfl
  | arm hf => exact rxChecksum_armReceive hf
  | start _ _ hr => exact rxChecksum_of_not_receiving nofun (h.frameReady_eq_false (by simp [hr]))
  | rearm _ hf => exact rxChecksum_armReceive hf
  | abort hr =>
    exact rxChecksum_of_not_receiving nofun (h.frameReady_eq_false (RadioState.ne_of_isTx hr).2)
  | @receive w b n =>
    obtain ⟨hr, hf⟩ : s.radio = .receiving ∧ s.frameReady = false :=
      hrun.resolve_left fun ⟨_, _, _, he⟩ => by cases he
    refine rxChecksum_received (b := b) h hx hr hf ?_ ?_ ?_ ?_ ?_ <;> simp [hf]
  | @complete w b n =>
    obtain ⟨hr, hf⟩ : s.radio = .receiving ∧ s.frameReady = false :=
      hrun.resolve_left fun ⟨_, _, _, he⟩ => by cases he
    refine rxChecksum_received (b := b) h hx hr hf ?_ ?_ ?_ ?_ ?_ <;> simp
  | emit n hrule =>
    obtain ⟨hs, hr⟩ := isTx_of_txRule hrule
    exact rxChecksum_of_not_receiving (RadioState.ne_of_isTx hr).2
      (h.frameReady_eq_false (RadioState.ne_of_isTx hs).2)
  | txDone hr => exact rxChecksum_of_not_receiving nofun (h.frameReady_eq_false (by simp [hr]))
  | device e he => exact absurd he hbus
  | status v => exact absurd ⟨_, rfl⟩ hbus

/-- Settles O43. -/
theorem stepKeepsTheReceiveChecksum : Obligations.StepKeepsTheReceiveChecksum := by
  unfold Obligations.StepKeepsTheReceiveChecksum
  intro s t h hx hstep
  exact (h.step_keeps hx (fun u is n m l hu => rxChecksum_congr hu rfl rfl rfl rfl rfl rfl rfl)
    (fun u i v hu hp hrun hexec => rxChecksum_exec hu hp hrun hexec) hstep).2

/-! ## The frame being sent and the transmit checksum domain (R136, R232) -/

/-- The two domains speak of these fields only. -/
theorem txDomain_congr {s t : State} (h : txFrameStored s ∧ txChecksum s) (hr : t.radio = s.radio)
    (hc : t.crc = s.crc) (hid : t.ident = s.ident) (hbuf : t.buf = s.buf) (hcfg : t.cfg = s.cfg) :
    txFrameStored t ∧ txChecksum t := by
  unfold txFrameStored txChecksum framePrefix at h ⊢
  rwa [hr, hc, hid, hbuf, hcfg]

theorem txDomain_of_not_tx {t : State} (hr : t.radio.isTx = false) : txFrameStored t ∧ txChecksum t := by
  refine ⟨fun h => ?_, fun k l h => ?_, fun l h => ?_⟩
  · rw [hr] at h
    cases h
  · rw [h] at hr
    cases hr
  · obtain h | h := h <;> rw [h] at hr <;> cases hr

/-- TXBEGIN stores the header, the length and the payload (R136). -/
theorem txDomain_start {t : State} {m : Memory} {hdr len : Byte} {data : List Byte}
    (hr : t.radio = .txPreamble) (hbuf : t.buf = m.writeAll 0 (hdr :: len :: data))
    (hd : data.length = len.toNat) (hl : len.toNat ≤ t.cfg.maxPayload) :
    txFrameStored t ∧ txChecksum t := by
  obtain ⟨-, hread, -⟩ := m.read_writeFrame hdr len data
  refine ⟨fun _ => ⟨len, hbuf ▸ hread, hl, fun i hi => ?_⟩, by simp [hr], by simp [hr]⟩
  rw [hbuf, Memory.read_writeAll, if_pos (by simp; omega)]
  simp
  omega

/-- Inside the payload the index moves on with the offset; the last offset is that of the frame's last
byte. -/
theorem txIndex_next {l : Byte} {k : BitVec 8} (hl : l.toNat ≤ 126) (hlow : -(2 + (l.toNat : Int)) ≤ k.toInt)
    (hhigh : k.toInt ≤ -1) :
    txIndex l k < 2 + l.toNat ∧ (k + 1 = 0 → txIndex l k + 1 = 2 + l.toNat)
    ∧ (k + 1 ≠ 0 → txIndex l (k + 1) = txIndex l k + 1) := by
  have hk := txIndex_toInt hl hlow hhigh
  refine ⟨by omega, fun hlast => ?_, fun hne => ?_⟩
  · have hlast := (txOffset_last_iff k).mp hlast
    omega
  · have hsucc := txOffset_succ_toInt hhigh hne
    have hlast := mt (txOffset_last_iff k).mpr hne
    have hk' := txIndex_toInt (k := k + 1) hl (by omega) (by omega)
    omega

/-- The first transmit position is the header's (R192). -/
theorem txIndex_txStart (l : Byte) : txIndex l (txStart l) = 0 := by
  rw [txIndex, txStart, BitVec.add_right_neg]
  rfl

/-- The emitted byte of the payload is fed after the ones before it (R193). -/
theorem txChecksum_payload {s : State} {l x : Byte} {k : BitVec 8} (hx : txChecksum s)
    (hs : s.radio = .txPayload k) (hread : s.buf.read 1 = some l)
    (hbyte : s.buf.read (txIndex l k) = some x) :
    crc16Update s.crc x = crcFold crcSeed (s.ident.groupId :: framePrefix s (txIndex l k + 1)) := by
  obtain ⟨hpay, -⟩ := hx
  rw [hpay k l hs hread, framePrefix_succ, hbyte]
  exact (crcFold_concat crcSeed (s.ident.groupId :: framePrefix s (txIndex l k)) x).symm

/-- A rule of the transmit chain keeps the checksum domain. -/
theorem txChecksum_txRule {s t : State} {b : Byte} {r : RadioState} {c : Half} (h : Inv s)
    (hstored : txFrameStored s) (hx : txChecksum s) (hrule : TxRule s b r c) (hr : t.radio = r)
    (hc : t.crc = c) (hid : t.ident = s.ident) (hbuf : t.buf = s.buf) : txChecksum t := by
  obtain ⟨-, hmax⟩ := h.params
  have hprefix (n : Nat) : framePrefix t n = framePrefix s n := framePrefix_congr fun _ _ => by rw [hbuf]
  unfold txChecksum
  rw [hr, hc, hid, hbuf]
  simp only [hprefix]
  cases hrule with
  | sync2 hs =>
    refine ⟨?_, by simp⟩
    rintro k l ⟨⟩ hread
    rw [State.bufByte_of_read hread, txIndex_txStart]
    rfl
  | payload k b hs hi hb =>
    obtain ⟨l, hread, hl, hlow, hhigh⟩ := h.payload k hs
    obtain ⟨l', hread', -, hall⟩ := hstored (by rw [hs]; rfl)
    obtain rfl : l = l' := Option.some.inj (hread.symm.trans hread')
    obtain ⟨hlt, hlast, hnext⟩ := txIndex_next (hl.trans hmax) hlow hhigh
    obtain ⟨x, hbyte⟩ := Option.isSome_iff_exists.mp (hall _ hlt)
    rw [State.bufByte_of_read hread] at hb
    obtain rfl := hb x hbyte
    have hfed := txChecksum_payload hx hs hread hbyte
    split
    · refine ⟨by simp, fun m _ hm => ?_⟩
      obtain rfl : l = m := Option.some.inj (hread.symm.trans hm)
      rw [hfed, hlast ‹_›]
    · refine ⟨?_, by simp⟩
      rintro _ m ⟨⟩ hm
      obtain rfl : l = m := Option.some.inj (hread.symm.trans hm)
      rw [hfed, hnext ‹_›]
  | crcHigh hs =>
    obtain ⟨-, hend⟩ := hx
    exact ⟨by simp, fun l _ hread => hend l (.inl hs) hread⟩
  | _ => exact ⟨by simp, by simp⟩

theorem txDomain_exec {s t : State} {i : Instr} (h : Inv s) (hx : txFrameStored s ∧ txChecksum s)
    (hrun : Issued i ∨ Triggered s i) (hexec : exec i s = .next t) : txFrameStored t ∧ txChecksum t := by
  have hbus : ¬ ∃ v, encode i = .bus v := hrun.elim not_bus_of_issued not_bus_of_triggered
  cases exec_effect hexec with
  | fault | refuse | answer | keep | wakeOff | wakeArm | woke | setbrk | wake =>
    exact txDomain_congr hx rfl rfl rfl rfl rfl
  | reinit | deliver | arm | claim | por | rearm | abort | txDone => exact txDomain_of_not_tx rfl
  | start hl =>
    obtain ⟨hwf, -⟩ := hrun.resolve_right id
    exact txDomain_start rfl rfl (beq_iff_eq.mp hwf) hl
  | receive n | complete n =>
    obtain ⟨hr, -⟩ : s.radio = .receiving ∧ s.frameReady = false :=
      hrun.resolve_left fun ⟨_, _, _, he⟩ => by cases he
    exact txDomain_of_not_tx (by simp [hr, RadioState.isTx])
  | emit n hrule =>
    obtain ⟨hstored, hsum⟩ := hx
    obtain ⟨hs, -⟩ := isTx_of_txRule hrule
    exact ⟨fun _ => hstored hs, txChecksum_txRule h hstored hsum hrule rfl rfl rfl rfl⟩
  | device e he => exact absurd he hbus
  | status v => exact absurd ⟨_, rfl⟩ hbus

/-- Settles O44. -/
theorem stepKeepsTheTransmitChecksum : Obligations.StepKeepsTheTransmitChecksum := by
  unfold Obligations.StepKeepsTheTransmitChecksum
  intro s t h hstored hsum hstep
  exact (h.step_keeps (P := fun u => txFrameStored u ∧ txChecksum u) ⟨hstored, hsum⟩
    (fun u is n m l hu => txDomain_congr hu rfl rfl rfl rfl rfl)
    (fun u i v hu hp hrun hexec => txDomain_exec hu hp hrun hexec) hstep).2

end Sys2Proof.Safety

/-! PROOFS. The bus log (R34 to R36, R39, R358) and services in `Idle` (R143, R355, R356). -/

namespace Sys2Proof.Machine

open Sys2Proof.Safety

/-! ## The mirrors and the bus log (R34 to R36, R39) -/

/-- From `s` to `t` the entries `es` were appended, and the mirrors are what they commanded last. -/
structure Logged (s t : State) (es : List BusEntry) : Prop where
  busLog : t.busLog = s.busLog ++ es
  rxOn : t.rxOn = es.foldl (fun v e => e.rxAfter v) s.rxOn
  txOn : t.txOn = es.foldl (fun v e => e.txAfter v) s.txOn
  wakeEn : t.wakeEn = es.foldl (fun v e => e.wakeAfter v) s.wakeEn

theorem Logged.trans {s t u : State} {es fs : List BusEntry} (h : Logged s t es) (h' : Logged t u fs) :
    Logged s u (es ++ fs) where
  busLog := by rw [h'.busLog, h.busLog, List.append_assoc]
  rxOn := by rw [h'.rxOn, h.rxOn, List.foldl_append]
  txOn := by rw [h'.txOn, h.txOn, List.foldl_append]
  wakeEn := by rw [h'.wakeEn, h.wakeEn, List.foldl_append]

/-- Nothing was appended and the mirrors are as they were. -/
theorem Logged.of_same {s t : State} (hlog : t.busLog = s.busLog) (hrx : t.rxOn = s.rxOn)
    (htx : t.txOn = s.txOn) (hwk : t.wakeEn = s.wakeEn) : Logged s t [] :=
  ⟨by rw [hlog, List.append_nil], hrx, htx, hwk⟩

theorem Logged.readStatus (s : State) (w : Half) (b : Byte) :
    ∃ es, Logged s (s.readStatus w b) es ∧ es.length ≤ 2 := by
  unfold State.readStatus
  split
  · exact ⟨[.status w, .fifoRead b], ⟨by simp, rfl, rfl, rfl⟩, by simp⟩
  · exact ⟨[.status w], ⟨rfl, rfl, rfl, rfl⟩, by simp⟩

/-- One search step appends the threshold of a node it lands on, and nothing once it has ended (R253). -/
theorem Logged.rssiStep (s : State) (above : Bool) :
    ∃ es, Logged s (s.rssiStep above) es ∧ es.length ≤ 1 ∧ ((∃ j, s.rssiNode = .bucket j) → es = []) := by
  obtain ⟨j, -, h⟩ | ⟨n, m, hn, -, h⟩ | ⟨n, j, -, -, h⟩ := s.rssiStep_cases above <;> rw [h]
  · exact ⟨[], .of_same rfl rfl rfl rfl, by simp, fun _ => rfl⟩
  · exact ⟨[.setRssi s.cfg.rssiCode[m]], ⟨rfl, rfl, rfl, rfl⟩, by simp, by simp [hn]⟩
  · exact ⟨[], .of_same rfl rfl rfl rfl, by simp, fun _ => rfl⟩

/-- The entries each instruction appends. -/
theorem exec_logged {i : Instr} {s t : State} (h : exec i s = .next t) : ∃ es, Logged s t es := by
  cases exec_effect h with
  | fault | refuse | answer | keep | deliver | woke | setbrk => exact ⟨[], .of_same rfl rfl rfl rfl⟩
  | reinit => exact ⟨_, rfl, rfl, rfl, rfl⟩
  | claim => exact ⟨_, rfl, rfl, rfl, rfl⟩
  | start => exact ⟨_, rfl, rfl, rfl, rfl⟩
  | wakeOff => exact ⟨_, rfl, rfl, rfl, rfl⟩
  | wakeArm => exact ⟨_, rfl, rfl, rfl, rfl⟩
  | por => exact ⟨_, rfl, rfl, rfl, rfl⟩
  | wake => exact ⟨_, rfl, rfl, rfl, rfl⟩
  | abort => exact ⟨_, rfl, rfl, rfl, rfl⟩
  | emit => exact ⟨_, rfl, rfl, rfl, rfl⟩
  | txDone => exact ⟨_, rfl, rfl, rfl, rfl⟩
  | device => exact ⟨_, rfl, rfl, rfl, rfl⟩
  | status => exact ⟨_, rfl, rfl, rfl, rfl⟩
  | arm =>
    exact ⟨[.setRssi s.cfg.rssiCode[3], .setMode true false s.wakeEn],
      by simp [State.armReceive_eq], rfl, rfl, rfl⟩
  | rearm =>
    exact ⟨[.setMode false false s.wakeEn, .setRssi s.cfg.rssiCode[3], .setMode true false s.wakeEn],
      by simp [State.armReceive_eq], rfl, rfl, rfl⟩
  | @receive w b n =>
    obtain ⟨es, hes, -⟩ := Logged.rssiStep s (rssiAbove s.cfg w)
    exact ⟨es, hes.busLog, hes.rxOn, hes.txOn, hes.wakeEn⟩
  | @complete w b n =>
    obtain ⟨es, hes, -⟩ := Logged.rssiStep s (rssiAbove s.cfg w)
    exact ⟨_, hes.trans ⟨rfl, rfl, rfl, rfl⟩⟩

/-- Settles O50: the entries of a step are those of its status read and its instructions. -/
theorem mirrorsFollowTheBusLog : Obligations.MirrorsFollowTheBusLog := by
  unfold Obligations.MirrorsFollowTheBusLog
  intro s t hstep
  have hkept : ∃ es, Logged s t es := by
    refine step_keeps (P := fun u => ∃ es, Logged s u es) ?_ ?_ ?_ ⟨[], .of_same rfl rfl rfl rfl⟩ hstep
    · exact fun u is n m _ ⟨es, h⟩ => ⟨es, h.busLog, h.rxOn, h.txOn, h.wakeEn⟩
    · rintro u w b ⟨es, h⟩
      obtain ⟨fs, h', -⟩ := Logged.readStatus u w b
      exact ⟨_, h.trans h'⟩
    · rintro u i v - ⟨es, h⟩ hexec
      obtain ⟨fs, h'⟩ := exec_logged hexec
      exact ⟨_, h.trans h'⟩
  obtain ⟨es, h⟩ := hkept
  exact ⟨es, h.busLog, h.rxOn, h.txOn, h.wakeEn⟩

/-! ## How many bus operations (R358) -/

/-- The most bus operations of one event; a receive service programs a threshold or ends the frame, not
both. -/
def eventBound (s : State) (i : Instr) : Nat :=
  match i with
  | .evPor _ => 2
  | .evOvf _ => if s.radio = .receiving ∧ s.frameReady = false then 3 else 1
  | .evWake _ | .evFifoRx _ _ | .evFifoTx _ => 1
  | _ => 0

/-- A receive service completes a frame only from its fourth byte on (R188). -/
theorem State.frameComplete_cursor_ge {s : State} (hcap : 4 ≤ s.cfg.bufCap)
    (h : s.frameComplete.1 = true) : 4 ≤ s.cursor.toNat := by
  obtain ⟨l, hl⟩ : ∃ l, completeWith s.cfg l s.cursor = true := by
    unfold State.frameComplete at h
    split at h
    · exact ⟨_, h⟩
    · exact ⟨_, h⟩
  rw [completeWith_iff] at hl
  omega

theorem searchLeft_node_pos (n : Fin 6) : 1 ≤ searchLeft (.node n) := by
  revert n
  decide

/-- When a frame is complete the search has ended (R256). -/
theorem bucket_of_complete {s : State} {w : Half} {b : Byte} (h : Inv s) (hr : s.radio = .receiving)
    (hc : s.cursor.toNat < s.cfg.bufCap) (hd : (s.receiveByte w b).frameComplete.1 = true) :
    ∃ j, s.rssiNode = .bucket j := by
  obtain ⟨hcap, -⟩ := h.bufCap_pos
  have hcur := State.frameComplete_cursor_ge (by simp; omega) hd
  have hleft := h.searching hr
  simp only [State.storeByte_cursor, State.rssiStep_cursor, cursor_succ_toNat h.params hc] at hcur
  cases hn : s.rssiNode with
  | bucket j => exact ⟨j, rfl⟩
  | node n =>
    have hpos := searchLeft_node_pos n
    rw [hn] at hleft
    omega

theorem exec_event_bound {i : Instr} {s t : State} (h : Inv s) (htrig : Triggered s i)
    (hexec : exec i s = .next t) : t.busLog.length ≤ s.busLog.length + eventBound s i := by
  cases exec_effect hexec with
  | fault | refuse | answer | keep => exact Nat.le_add_right _ _
  | por | wake => simp [eventBound]
  | rearm hr hf => simp [eventBound, hr, hf]
  | abort hr =>
    obtain ⟨-, hne⟩ := RadioState.ne_of_isTx hr
    simp [eventBound, hne]
  | @receive w b n =>
    obtain ⟨es, hes, hlen, -⟩ := Logged.rssiStep s (rssiAbove s.cfg w)
    simpa [eventBound, hes.busLog] using hlen
  | @complete w b n hc hd =>
    obtain ⟨hr, -⟩ := htrig
    obtain ⟨es, hes, -, hend⟩ := Logged.rssiStep s (rssiAbove s.cfg w)
    simp [eventBound, hes.busLog, hend (bucket_of_complete h hr hc hd)]
  | emit | txDone => simp [eventBound]
  | device e he => exact absurd he (not_bus_of_triggered htrig)
  | status => exact htrig.elim
  | _ => exact htrig.elim

theorem exec_host_bound {i : Instr} {s t : State} (hi : Issued i) (hexec : exec i s = .next t) :
    t.busLog.length ≤ s.busLog.length + hostBound i := by
  obtain ⟨-, h, d, he⟩ := hi
  cases exec_effect hexec with
  | fault | refuse | answer | keep | deliver | woke | setbrk => exact Nat.le_add_right _ _
  | reinit | claim | start | wakeArm => exact (List.length_append ..).le
  | wakeOff => exact (List.length_append ..).le.trans (Nat.add_le_add_left (by decide : 1 ≤ 3) _)
  | arm => rw [State.armReceive_busLog, List.append_assoc]; exact (List.length_append ..).le
  | device e he' =>
    obtain ⟨v, hv⟩ := he'
    cases he.symm.trans hv
  | _ => cases he

theorem readStatus_length_le (s : State) (w : Half) (b : Byte) :
    (s.readStatus w b).busLog.length ≤ s.busLog.length + 2 := by
  obtain ⟨es, hes, hlen⟩ := Logged.readStatus s w b
  rw [hes.busLog, List.length_append]
  omega

theorem readStatus_length_of_not_rx {s : State} {w : Half} (b : Byte)
    (h : ¬ (s.radio = .receiving ∧ s.frameReady = false ∧ w.extractLsb' 13 3 = 0b100)) :
    (s.readStatus w b).busLog.length = s.busLog.length + 1 := by
  rw [State.readStatus_of_not_rx b h]
  simp

/-- One event, and a WAKE after it where the status word reports one. -/
theorem execAll_bound {i : Instr} {s t : State} {w : Half} (h : Inv s) (htrig : Triggered s i)
    (hexec : execAll (i :: (if w.getLsbD 12 then [.evWake w] else [])) s = .next t) :
    t.busLog.length ≤ s.busLog.length + eventBound s i + 1 := by
  obtain ⟨u, hu, hrest⟩ := execAll_cons_inv hexec
  have hfirst := exec_event_bound h htrig hu
  split at hrest
  · rw [execAll_singleton] at hrest
    have hwake := exec_event_bound (i := .evWake w) (h.exec (.inr htrig) hu) trivial hrest
    have hone : eventBound u (.evWake w) = 1 := rfl
    omega
  · cases hrest
    omega

/-- The most that the events of a service bring, by its status word (R182). -/
theorem execAll_statusEvents_bound {s t : State} {w : Half} {b : Byte} {c : FifoCase} (h : Inv s)
    (htrig : ∀ i ∈ statusEvents w b c, Triggered s i)
    (hexec : execAll (statusEvents w b c) s = .next t) :
    t.busLog.length ≤ s.busLog.length +
      if w.getLsbD 14 then 2
      else if w.getLsbD 13 then eventBound s (.evOvf w) + 1
      else if w.getLsbD 15 then eventBound s (fifoEvent w b c) + 1
      else 1 := by
  cases h14 : w.getLsbD 14 with
  | true =>
    rw [statusEvents_of_por h14] at hexec htrig
    rw [execAll_singleton] at hexec
    exact exec_event_bound h (htrig _ List.mem_cons_self) hexec
  | false =>
    cases h13 : w.getLsbD 13 with
    | true =>
      rw [statusEvents_of_ovf h14 h13] at hexec htrig
      exact execAll_bound h (htrig _ List.mem_cons_self) hexec
    | false =>
      cases h15 : w.getLsbD 15 with
      | true =>
        rw [statusEvents_of_fifo h14 h13 h15] at hexec htrig
        exact execAll_bound h (htrig _ List.mem_cons_self) hexec
      | false =>
        rw [statusEvents_of_rest h14 h13 h15] at hexec
        split at hexec <;> rw [execAll_singleton] at hexec
        · exact exec_event_bound (i := .evWake w) h trivial hexec
        · exact (exec_event_bound (i := .evNone w) h trivial hexec).trans (Nat.le_succ _)

theorem eventBound_readStatus (s : State) (w : Half) (b : Byte) (i : Instr) :
    eventBound (s.readStatus w b) i = eventBound s i := by
  simp only [eventBound, State.readStatus_radio, State.readStatus_frameReady]

/-- What a FIFO event's service brings with its status read: the FIFO byte is read in the receive case
alone. -/
theorem fifoService_bound (s : State) (w : Half) (b : Byte) :
    (s.readStatus w b).busLog.length + (eventBound s (fifoEvent w b s.fifoCase) + 1) ≤ s.busLog.length
      + (if s.radio = .receiving ∧ s.frameReady = false then 4 else if s.radio.isTx then 3 else 2) := by
  split
  · rename_i hrx
    rw [State.fifoCase_of_receiving hrx.1 hrx.2]
    have hread := readStatus_length_le s w b
    show _ + (1 + 1) ≤ _
    omega
  · rename_i hrx
    have hread := readStatus_length_of_not_rx (w := w) b (s := s) fun ⟨hr, hf, _⟩ => hrx ⟨hr, hf⟩
    rw [hread, State.fifoCase, if_neg hrx]
    split <;> exact le_rfl

theorem service_bound {s t : State} {w : Half} {b : Byte} (h : Inv s) (hs : s.service w b = .next t) :
    t.busLog.length ≤ s.busLog.length + serviceBound s w := by
  obtain ⟨hi, hs'⟩ | ⟨hi, hs'⟩ := s.service_cases w b <;> rw [hs'] at hs
  · cases hs
    simp [serviceBound, hi]
  · have hbound := execAll_statusEvents_bound (h.readStatus w b)
      (fun i hm => (triggered_readStatus s w b i).mpr (triggered_of_mem hi hm)) hs
    have hone (hnot : ¬ (w.getLsbD 15 = true ∧ w.getLsbD 13 = false ∧ w.getLsbD 14 = false)) :
        (s.readStatus w b).busLog.length = s.busLog.length + 1 :=
      readStatus_length_of_not_rx b fun ⟨_, _, hw⟩ => hnot ((fifoTop_iff w).mp hw)
    simp only [eventBound_readStatus] at hbound
    rw [serviceBound, if_neg (ne_false_of_eq_true hi)]
    cases h14 : w.getLsbD 14 with
    | true =>
      rw [h14, if_pos rfl, hone (by simp [h14])] at hbound
      exact hbound
    | false =>
      rw [h14, if_neg Bool.false_ne_true] at hbound
      rw [if_neg Bool.false_ne_true]
      cases h13 : w.getLsbD 13 with
      | true =>
        rw [h13, if_pos rfl, hone (by simp [h13]), eventBound] at hbound
        rw [if_pos rfl]
        by_cases hrx : s.radio = .receiving ∧ s.frameReady = false
        · rw [if_pos hrx] at hbound ⊢
          exact hbound
        · rw [if_neg hrx] at hbound ⊢
          exact hbound
      | false =>
        rw [h13, if_neg Bool.false_ne_true] at hbound
        rw [if_neg Bool.false_ne_true]
        cases h15 : w.getLsbD 15 with
        | true =>
          rw [h15, if_pos rfl] at hbound
          exact hbound.trans (fifoService_bound s w b)
        | false =>
          rw [h15, if_neg Bool.false_ne_true, hone fun ⟨hc, _, _⟩ => Bool.false_ne_true (h15.symm.trans hc)]
            at hbound
          exact hbound

theorem serviceBound_le_five (s : State) (w : Half) : serviceBound s w ≤ 5 := by
  unfold serviceBound
  split
  · decide
  · split
    · decide
    · split
      · split <;> decide
      · split
        · split
          · decide
          · split <;> decide
        · decide

theorem hostBound_le_three (i : Instr) : hostBound i ≤ 3 := by
  cases i with
  | reinit | pktrdy | txbegin => exact (by decide : 2 ≤ 3)
  | cantx => exact (by decide : 1 ≤ 3)
  | sleep => exact (by decide : 3 ≤ 3)
  | _ => exact Nat.zero_le 3

/-- Settles O51: agent by agent. -/
theorem busOperationsPerStepAreBounded : Obligations.BusOperationsPerStepAreBounded := by
  unfold Obligations.BusOperationsPerStepAreBounded
  intro s t h hstep
  obtain ⟨-, -, hagent⟩ := step_next_unmarked hstep
  unfold stepBound
  obtain ⟨hin, ha⟩ | ⟨c, d, rest, hin, ha⟩ | ⟨w, b, rest, hin, ha⟩ | ⟨w, rest, hin, ha⟩ :=
    s.agentStep_cases <;> rw [ha] at hagent <;> rw [hin]
  · have hfree : Inv { s with draws := s.draws + 1 } := h.congr rfl fun _ hx => hx
    exact ⟨(service_bound hfree hagent :), serviceBound_le_five s _⟩
  · obtain ⟨i, hd, hop⟩ | ⟨r, hd, hop⟩ := State.hostOp_cases { s with inputs := rest } c d <;>
      rw [hop] at hagent <;> simp only [hd]
    · exact ⟨(exec_host_bound (issued_of_decodeHost hd) hagent :), (hostBound_le_three i).trans (by decide)⟩
    · cases hagent
      simp
  · have hrest : Inv { s with inputs := rest } := h.withInputs fun y hy => by simp [hin, hy]
    exact ⟨(service_bound hrest hagent :), serviceBound_le_five s w⟩
  · exact absurd rfl (h.agents (.bus w) (by simp [hin]) w)

/-! ## Services in `Idle` (R143, R355, R356) -/

/-- What a service in `Idle` with nothing delivered keeps of the state `s` it began in. -/
structure IdleKept (s t : State) : Prop where
  radio : t.radio = .idle
  frameReady : t.frameReady = false
  avail : s.avail = true → t.avail = true
  buf : t.buf = s.buf
  crcSnap : t.crcSnap = s.crcSnap
  rssiNode : t.rssiNode = s.rssiNode
  crc : t.crc = s.crc
  results : t.results = s.results

theorem not_host_of_triggered {s : State} {i : Instr} (h : Triggered s i) :
    ¬ ∃ c d, encode i = .host c d := by
  rintro ⟨c, d, hv⟩
  cases i with
  | evPor | evWake | evOvf | evFifoRx | evFifoTx | evFifoIgn | evNone => cases hv
  | _ => exact h

theorem IdleKept.exec {s u v : State} {i : Instr} (h : IdleKept s u) (htrig : Triggered u i)
    (hexec : exec i u = .next v) : IdleKept s v := by
  have hntx : u.radio.isTx = false := by rw [h.radio]; rfl
  cases exec_effect hexec with
  | fault | refuse | keep | wake =>
    exact ⟨h.radio, h.frameReady, h.avail, h.buf, h.crcSnap, h.rssiNode, h.crc, h.results⟩
  | answer _ _ hi => exact absurd hi (not_host_of_triggered htrig)
  | por => exact ⟨rfl, rfl, fun _ => rfl, h.buf, h.crcSnap, h.rssiNode, h.crc, h.results⟩
  | rearm hr => cases h.radio.symm.trans hr
  | abort hr => cases hntx.symm.trans hr
  | receive | complete =>
    obtain ⟨hr, -⟩ := htrig
    cases h.radio.symm.trans hr
  | emit n hrule => cases hntx.symm.trans (isTx_of_txRule hrule).1
  | txDone hr => cases h.radio.symm.trans hr
  | device e he => exact absurd he (not_bus_of_triggered htrig)
  | _ => exact htrig.elim

/-- A step that is a service, of a waiting input or with free draws. -/
theorem service_of_step {s t : State} (hin : s.inputs = [] ∨ ∃ w b rest, s.inputs = .irq w b :: rest)
    (hstep : step s = .next t) :
    ∃ is n w b, State.service { s with inputs := is, draws := n } w b = .next t := by
  obtain ⟨-, -, hagent⟩ := step_next_unmarked hstep
  unfold State.agentStep at hagent
  obtain hin | ⟨w, b, rest, hin⟩ := hin <;> rw [hin] at hagent
  · exact ⟨s.inputs, s.draws + 1, _, _, hagent⟩
  · exact ⟨rest, s.draws, w, b, hagent⟩

/-- Settles O54: the status read and each event keep it. -/
theorem idleServicesKeepPermissionAndFrame : Obligations.IdleServicesKeepPermissionAndFrame := by
  unfold Obligations.IdleServicesKeepPermissionAndFrame
  intro s t hr hf hin hstep
  obtain ⟨is, n, w, b, hs⟩ := service_of_step hin hstep
  have hread : IdleKept s (State.readStatus { s with inputs := is, draws := n } w b) := by
    constructor <;> simp [hr, hf]
  have hkept := service_keeps (P := IdleKept s) (fun u i v htrig hu hexec => hu.exec htrig hexec) hread hs
  exact ⟨hkept.radio, hkept.frameReady, hkept.avail, hkept.buf, hkept.crcSnap, hkept.rssiNode, hkept.crc,
    hkept.results⟩

end Sys2Proof.Machine

/-! PROOFS. What is hidden or not yet read (R22, R37, R38), and endless runs (R310, R331, R357). -/

namespace Sys2Proof.Machine

open Sys2Proof.Safety

/-- The outcome with its next state changed. -/
def Result.map (f : State → State) (r : Result) : Result :=
  match r with
  | .next t => .next (f t)
  | .fault c => .fault c
  | .refused c => .refused c

/-- A branch on which the two states agree, taken in each of them. -/
theorem Result.ite_eq_map {f : State → State} {c : Prop} [Decidable c] {a b a' b' : Result}
    (ha : a' = Result.map f a) (hb : b' = Result.map f b) :
    (if c then a' else b') = Result.map f (if c then a else b) := by
  split
  · exact ha
  · exact hb

/-! ## Hidden registers (R37, R38) -/

/-- The state with other wake registers. -/
def State.withWake (s : State) (v : Bool) (m : Byte) (e : BitVec 5) : State :=
  { s with woke := v, wakeM := m, wakeE := e }

theorem State.rssiStep_withWake (s : State) (v : Bool) (m : Byte) (e : BitVec 5) (above : Bool) :
    (s.withWake v m e).rssiStep above = (s.rssiStep above).withWake v m e := by
  simp only [State.rssiStep, State.withWake]
  split
  · rfl
  · split <;> rfl

theorem State.frameComplete_of_two_le {s : State} (h : 2 ≤ s.cursor.toNat) :
    s.frameComplete = (completeWith s.cfg (s.bufByte 1) s.cursor, (s.readBuf 1).2) := if_pos h

theorem State.frameComplete_of_lt_two {s : State} (h : ¬ 2 ≤ s.cursor.toNat) :
    s.frameComplete = (completeWith s.cfg 0 s.cursor, s) := if_neg h

theorem State.frameComplete_withWake (s : State) (v : Bool) (m : Byte) (e : BitVec 5) :
    (s.withWake v m e).frameComplete = (s.frameComplete.1, s.frameComplete.2.withWake v m e) := by
  by_cases h : 2 ≤ s.cursor.toNat
  · rw [State.frameComplete_of_two_le h, State.frameComplete_of_two_le (s := s.withWake v m e) h]
    rfl
  · rw [State.frameComplete_of_lt_two h, State.frameComplete_of_lt_two (s := s.withWake v m e) h]
    rfl

theorem execEvFifoRx_withWake (s : State) (v : Bool) (m : Byte) (e : BitVec 5) (w : Half) (b : Byte) :
    execEvFifoRx w b (s.withWake v m e) = Result.map (·.withWake v m e) (execEvFifoRx w b s) := by
  have hbyte : (s.withWake v m e).receiveByte w b = (s.receiveByte w b).withWake v m e :=
    congrArg (State.storeByte · b) (State.rssiStep_withWake s v m e _)
  by_cases hc : s.cursor.toNat < s.cfg.bufCap
  · rw [execEvFifoRx_of_cursor hc, execEvFifoRx_of_cursor (s := s.withWake v m e) hc, hbyte,
      State.frameComplete_withWake]
    split <;> rfl
  · have hc' := Nat.not_lt.mp hc
    rw [execEvFifoRx_of_bufCap_le hc', execEvFifoRx_of_bufCap_le (s := s.withWake v m e) hc']
    rfl

theorem execEvFifoTx_withWake (s : State) (v : Bool) (m : Byte) (e : BitVec 5) :
    execEvFifoTx (s.withWake v m e) = Result.map (·.withWake v m e) (execEvFifoTx s) := by
  have hr : (s.withWake v m e).radio = s.radio := rfl
  unfold execEvFifoTx
  rw [hr]
  split
  case h_4 => exact Result.ite_eq_map rfl rfl
  all_goals rfl

/-- Of the instructions, those that neither write a wake register nor read the latch. -/
def wakeFree (i : Instr) : Prop := i ≠ .woke ∧ (∀ ms, i ≠ .sleep ms) ∧ ∀ w, i ≠ .evWake w

theorem exec_withWake {i : Instr} (h : wakeFree i) (s : State) (v : Bool) (m : Byte) (e : BitVec 5) :
    exec i (s.withWake v m e) = Result.map (·.withWake v m e) (exec i s) := by
  obtain ⟨hwoke, hsleep, hwake⟩ := h
  cases i with
  | reinit | cantx | rddata => exact Result.ite_eq_map rfl rfl
  | pktrdy | txbegin | evOvf => exact Result.ite_eq_map rfl (Result.ite_eq_map rfl rfl)
  | evFifoRx w b => exact execEvFifoRx_withWake s v m e w b
  | evFifoTx => exact execEvFifoTx_withWake s v m e
  | woke => exact absurd rfl hwoke
  | sleep => exact absurd rfl (hsleep _)
  | evWake => exact absurd rfl (hwake _)
  | _ => rfl

theorem exec_withWake_next {i : Instr} {s t : State} (h : wakeFree i) (hexec : exec i s = .next t) (v : Bool)
    (m : Byte) (e : BitVec 5) : exec i (s.withWake v m e) = .next (t.withWake v m e) := by
  rw [exec_withWake h, hexec]
  rfl

/-- SLEEP does not read the wake latch. -/
theorem execSleep_woke (ms : Word) (s : State) (v : Bool) :
    execSleep ms { s with woke := v } = Result.map (fun t => { t with woke := v }) (execSleep ms s) :=
  Result.ite_eq_map rfl (Result.ite_eq_map rfl rfl)

/-- SLEEP writes the wake encoding or keeps it, and does not read it. -/
theorem execSleep_wakeEncoding {ms : Word} {s t : State} (h : execSleep ms s = .next t) (m : Byte)
    (e : BitVec 5) : ∃ t', execSleep ms (s.withWake s.woke m e) = .next t'
      ∧ { t' with wakeM := t.wakeM, wakeE := t.wakeE } = t := by
  cases hi : s.init with
  | false =>
    rw [execSleep_of_not_init hi] at h
    cases h
    exact ⟨_, execSleep_of_not_init (s := s.withWake s.woke m e) hi ms, rfl⟩
  | true =>
    by_cases hms : ms = 0
    · subst hms
      rw [execSleep_zero hi] at h
      cases h
      exact ⟨_, execSleep_zero (s := s.withWake s.woke m e) hi, rfl⟩
    · rw [execSleep_of_ne_zero hi hms] at h
      cases h
      exact ⟨_, execSleep_of_ne_zero (s := s.withWake s.woke m e) hi hms, rfl⟩

/-- Settles O52: WOKE, SLEEP and the wake event one by one, every other instruction by `exec_withWake`. -/
theorem wakeRegistersAreHidden : Obligations.WakeRegistersAreHidden := by
  unfold Obligations.WakeRegistersAreHidden
  intro i s t h
  by_cases hfree : wakeFree i
  · have hany := exec_withWake_next hfree h
    have hkept : t.withWake s.woke s.wakeM s.wakeE = t :=
      Host.Outcome.next.inj ((hany s.woke s.wakeM s.wakeE).symm.trans h)
    have hwoke : s.woke = t.woke := by rw [← hkept]; rfl
    have hm : s.wakeM = t.wakeM := by rw [← hkept]; rfl
    have he : s.wakeE = t.wakeE := by rw [← hkept]; rfl
    exact ⟨fun _ v => ⟨_, hany v s.wakeM s.wakeE, by rw [hm, he]; rfl⟩,
      fun m e => ⟨_, hany s.woke m e, by rw [hwoke]; rfl⟩⟩
  · cases i with
    | woke =>
      cases h
      exact ⟨fun hne => absurd rfl hne, fun m e => ⟨_, rfl, rfl⟩⟩
    | evWake w =>
      cases h
      exact ⟨fun _ v => ⟨_, rfl, rfl⟩, fun m e => ⟨_, rfl, rfl⟩⟩
    | sleep ms =>
      have hwoke (v : Bool) : exec (.sleep ms) { s with woke := v } = .next { t with woke := v } :=
        (execSleep_woke ms s v).trans (congrArg _ h)
      exact ⟨fun _ v => ⟨_, hwoke v, rfl⟩, fun m e => execSleep_wakeEncoding h m e⟩
    | _ => exact absurd ⟨nofun, nofun, nofun⟩ hfree

/-! ## The identity before the first REINIT (R22) -/

/-- The state with another identity. -/
def State.withIdent (s : State) (id : Ident) : State := { s with ident := id }

/-- Before REINIT no frame waits, and neither the receiver nor a transmission can be started. -/
theorem unavailable_of_not_init {s : State} (h : Inv s) (hi : s.init = false) :
    s.avail = false ∧ s.frameReady = false := by
  have ha : s.avail = false := by
    by_contra ha
    cases hi.symm.trans (h.initialised (Bool.not_eq_false _ ▸ ha))
  have hr := h.unavailable ha
  exact ⟨ha, h.frameReady_eq_false (by simp [hr])⟩

/-- With nothing available the host's operations do not read the identity; REINIT writes it. -/
theorem exec_withIdent {i : Instr} {s t : State} (hi : Issued i) (ha : s.avail = false)
    (hf : s.frameReady = false) (hexec : exec i s = .next t) (id : Ident) :
    ∃ t', exec i (s.withIdent id) = .next t' ∧ { t' with ident := t.ident } = t := by
  have hmap (h : exec i (s.withIdent id) = Result.map (·.withIdent id) (exec i s)) :
      ∃ t', exec i (s.withIdent id) = .next t' ∧ { t' with ident := t.ident } = t :=
    ⟨t.withIdent id, by rw [h, hexec]; rfl, rfl⟩
  obtain ⟨-, c, d, he⟩ := hi
  cases i with
  | reinit node band group rate =>
    by_cases hb : band = 0
    · subst hb
      exact hmap rfl
    · cases hexec.symm.trans (execReinit_of_band node group rate s hb)
      exact ⟨_, execReinit_of_band node group rate (s.withIdent id) hb, rfl⟩
  | pktrdy =>
    cases hexec.symm.trans (execPktrdy_of_nothing hf (.inr ha))
    exact ⟨_, execPktrdy_of_nothing (s := s.withIdent id) hf (.inr ha), rfl⟩
  | cantx | rddata => exact hmap (Result.ite_eq_map rfl rfl)
  | txbegin | sleep => exact hmap (Result.ite_eq_map rfl (Result.ite_eq_map rfl rfl))
  | woke | setbrk | rdhdr | rdlen | rdrssi | rdflags => exact hmap rfl
  | reservedOp0 | reservedOpD | reservedOpE | reservedOpF => exact hmap rfl
  | _ => cases he

theorem service_of_not_init {s : State} (hi : s.init = false) (w : Half) (b : Byte) :
    s.service w b = .next (s.bus (.status w)) := by
  obtain ⟨-, h⟩ | ⟨hi', -⟩ := s.service_cases w b
  · exact h
  · cases hi.symm.trans hi'

theorem service_withIdent {s t : State} {w : Half} {b : Byte} (hi : s.init = false)
    (hs : s.service w b = .next t) (id : Ident) :
    ∃ t', (s.withIdent id).service w b = .next t' ∧ { t' with ident := t.ident } = t := by
  cases hs.symm.trans (service_of_not_init hi w b)
  exact ⟨_, service_of_not_init (s := s.withIdent id) hi w b, rfl⟩

/-- Settles O53: agent by agent. -/
theorem identityUnreadBeforeReinit : Obligations.IdentityUnreadBeforeReinit := by
  unfold Obligations.IdentityUnreadBeforeReinit
  intro s t id h hi hstep
  obtain ⟨ha, hf⟩ := unavailable_of_not_init h hi
  obtain ⟨hfm, hrm, hagent⟩ := step_next_unmarked hstep
  show ∃ t', step (s.withIdent id) = .next t' ∧ _
  rw [step_unmarked (s := s.withIdent id) hfm hrm]
  unfold State.agentStep at hagent ⊢
  rw [show (s.withIdent id).inputs = s.inputs from rfl]
  split at hagent
  · rename_i hin
    exact service_withIdent (s := { s with draws := s.draws + 1 }) hi hagent id
  · rename_i c d rest hin
    obtain ⟨i, hd, hop⟩ | ⟨r, hd, hop⟩ := State.hostOp_cases { s with inputs := rest } c d
    · obtain ⟨t', ht', heq⟩ := exec_withIdent (s := { s with inputs := rest })
        (issued_of_decodeHost hd) ha hf (hop.symm.trans hagent) id
      exact ⟨t', (hostOp_of_ok hd).trans ht', heq⟩
    · cases hop.symm.trans hagent
      exact ⟨_, hostOp_of_error hd, rfl⟩
  · rename_i w b rest hin
    exact service_withIdent (s := { s with inputs := rest }) hi hagent id
  · rename_i w rest hin
    exact absurd rfl (h.agents (.bus w) (by simp [hin]) w)

end Sys2Proof.Machine

/-! PROOFS. Endless runs (R310, R331, R357), and the service of a FIFO event alone (R182, R331). -/

namespace Sys2Proof.Machine

open Sys2Proof.Safety

/-! ## The two hangs (R310, R357) -/

/-- What a poll of RDFLAGS, with nothing behind it, leaves. -/
def State.polled (s : State) : State := { s with inputs := [], results := s.results ++ [s.flagsWord] }

/-- The run of a HOST that only polls. -/
def pollRun (s : State) : Nat → State
  | 0 => s
  | n + 1 => (pollRun s n).polled

theorem pollRun_keeps {s : State} (hm : final s) (ha : s.avail = false) (n : Nat) :
    final (pollRun s n) ∧ (pollRun s n).avail = false := by
  induction n with
  | zero => exact ⟨hm, ha⟩
  | succ n ih => exact ih

theorem step_offer_rdflags {s : State} (hm : final s) :
    step (offer s (encode .rdflags)) = .next s.polled :=
  step_host (s := offer s (encode .rdflags)) hm rfl

/-- What a service that is ignored, with nothing behind it, leaves. -/
def State.ignored (s : State) (w : Half) : State := { s with inputs := [], busLog := s.busLog ++ [.status w] }

/-- The run of a DEVICE that reports FIFO events where none is wanted. -/
def stormRun (s : State) (w : Nat → Half) : Nat → State
  | 0 => s
  | n + 1 => (stormRun s w n).ignored (w n)

theorem stormRun_keeps {s : State} (w : Nat → Half) (hm : final s)
    (hr : s.radio = .idle ∨ (s.radio = .receiving ∧ s.frameReady = true)) (n : Nat) :
    final (stormRun s w n) ∧ ((stormRun s w n).radio = .idle
      ∨ ((stormRun s w n).radio = .receiving ∧ (stormRun s w n).frameReady = true)) := by
  induction n with
  | zero => exact ⟨hm, hr⟩
  | succ n ih => exact ih

theorem step_offer_ignored {s : State} {w : Half} (hm : final s)
    (hr : s.radio = .idle ∨ (s.radio = .receiving ∧ s.frameReady = true)) (hw : fifoDraw w)
    (hwake : w.getLsbD 12 = false) (b : Byte) : step (offer s (.irq w b)) = .next (s.ignored w) :=
  (step_irq (s := offer s (.irq w b)) hm rfl).trans
    (ignoredEventsChangeNothing.2 w b { s with inputs := [] } hr hw hwake)

/-- Settles O60: the two runs, by recursion on the step, and what each keeps for ever. -/
theorem pollingAndStormAreRuns : Obligations.PollingAndStormAreRuns := by
  unfold Obligations.PollingAndStormAreRuns
  refine ⟨fun s hm ha => ?_, fun s w b hm hr hw => ⟨fun hfair => ?_, ?_⟩⟩
  · have hkeeps := pollRun_keeps hm ha
    refine ⟨pollRun s, fun n => step_offer_rdflags (hkeeps n).1, rfl, fun n => ⟨(hkeeps n).2, _, ?_, rfl⟩⟩
    obtain ⟨hflag, -⟩ := (pollRun s n).flagsWord_flags
    rw [hflag, (hkeeps n).2]
  · obtain ⟨m, -, c, d, hm⟩ := hfair 0
    cases hm
  · have hkeeps := stormRun_keeps w hm hr
    exact ⟨stormRun s w, fun n => step_offer_ignored (hkeeps n).1 (hkeeps n).2 (hw n).1 (hw n).2 (b n), rfl,
      fun _ => rfl⟩

/-! ## The service of a FIFO event (R182) -/

/-- The wake service after a FIFO event, where the status word reports a wake too. -/
def State.wakeIf (s : State) (w : Half) : State :=
  if w.getLsbD 12 then
    { s with woke := true, wakeEn := false, busLog := s.busLog ++ [.setMode s.rxOn s.txOn false] }
  else s

/-- After the first REINIT a FIFO event alone at the top runs the handler of its case, and a wake after it. -/
theorem service_of_fifo {s u : State} {w : Half} {b : Byte} (hi : s.init = true) (hw : fifoDraw w)
    (hu : exec (fifoEvent w b s.fifoCase) (s.readStatus w b) = .next u) :
    s.service w b = .next (u.wakeIf w) := by
  obtain ⟨h15, h13, h14⟩ := (fifoTop_iff w).mp hw
  rw [State.service_of_case hi rfl rfl, statusEvents_of_fifo h14 h13 h15, execAll_cons_next hu, State.wakeIf]
  split <;> rfl

/-- A transmit request. -/
theorem service_of_txRequest {s u : State} {w : Half} {b : Byte} (hi : s.init = true)
    (hr : s.radio.isTx = true) (hw : fifoDraw w)
    (hu : execEvFifoTx { s with busLog := s.busLog ++ [.status w] } = .next u) :
    s.service w b = .next (u.wakeIf w) := by
  obtain ⟨-, hne⟩ := RadioState.ne_of_isTx hr
  refine service_of_fifo hi hw ?_
  rw [State.fifoCase_of_isTx hr, State.readStatus_of_not_rx b fun ⟨hr', _, _⟩ => hne hr']
  exact hu

/-! ## A transmission ends (R331) -/

/-- The most transmit requests until `Idle`. -/
def txLeft (r : RadioState) : Nat :=
  match r with
  | .idle | .receiving => 0
  | .txDone => 1
  | .txTail2 => 2
  | .txTail1 => 3
  | .txCrcLow => 4
  | .txCrcHigh => 5
  | .txPayload k => 261 - k.toNat
  | .txSync2 => 262
  | .txSync1 => 263
  | .txPreamble => 264

/-- `Idle`, or a transmit state with at most `n` requests to go. -/
def txWithin (n : Nat) (s : State) : Prop :=
  s.radio = .idle ∨ (s.radio.isTx = true ∧ txLeft s.radio ≤ n)

theorem txLeft_lt_of_txRule {s : State} {b : Byte} {r : RadioState} {c : Half} (h : TxRule s b r c) :
    txLeft r < txLeft s.radio := by
  cases h with
  | sync2 hr =>
    rw [hr]
    exact Nat.lt_succ_of_le (Nat.sub_le ..)
  | payload k b hr =>
    rw [hr]
    have hk := k.isLt
    split
    · show 5 < 261 - k.toNat
      omega
    · show 261 - (k + 1).toNat < 261 - k.toNat
      have hnext : (k + 1).toNat = k.toNat + 1 := by bv_omega
      omega
  | _ hr => rw [hr]; decide

/-- No instruction of an agent sends the transmission back. -/
theorem exec_txWithin {i : Instr} {s t : State} {n : Nat} (h : txWithin n s)
    (hrun : (Issued i ∧ s.radio.isTx = true) ∨ Triggered s i) (hexec : exec i s = .next t) :
    txWithin n t := by
  have hbus : ¬ ∃ v, encode i = .bus v := hrun.elim (fun hi => not_bus_of_issued hi.1) not_bus_of_triggered
  cases exec_effect hexec with
  | fault | refuse | answer | keep | wakeOff | wakeArm | woke | setbrk | wake => exact h
  | reinit | deliver | claim | por | abort | txDone => exact .inl rfl
  | arm _ hr | start _ _ hr =>
    obtain ⟨-, htx⟩ | htrig := hrun
    · rw [hr] at htx
      cases htx
    · exact htrig.elim
  | rearm hr =>
    obtain h | ⟨h, -⟩ := h <;> rw [hr] at h <;> cases h
  | receive | complete =>
    obtain ⟨⟨-, _, _, he⟩, -⟩ | ⟨hr, -⟩ := hrun
    · cases he
    · obtain h | ⟨h, -⟩ := h <;> rw [hr] at h <;> cases h
  | emit m hrule =>
    obtain ⟨hs, hr⟩ := isTx_of_txRule hrule
    obtain h | ⟨-, h⟩ := h
    · rw [h] at hs
      cases hs
    · exact .inr ⟨hr, (txLeft_lt_of_txRule hrule).le.trans h⟩
  | device e he => exact absurd he hbus
  | status v => exact absurd ⟨_, rfl⟩ hbus

/-- A transmit request brings `Idle` nearer. -/
theorem execEvFifoTx_txLeft {s t : State} (hr : s.radio.isTx = true) (h : execEvFifoTx s = .next t) :
    t.radio = .idle ∨ (t.radio.isTx = true ∧ txLeft t.radio < txLeft s.radio) := by
  obtain ⟨n, b, r, c, hrule, rfl⟩ | ⟨-, rfl⟩ | ⟨hno, -⟩ := execEvFifoTx_rule h
  · exact .inr ⟨(isTx_of_txRule hrule).2, txLeft_lt_of_txRule hrule⟩
  · exact .inl rfl
  · cases hno.symm.trans hr

@[simp] theorem State.wakeIf_radio (s : State) (w : Half) : (s.wakeIf w).radio = s.radio := by
  unfold State.wakeIf
  split <;> rfl

/-- The invariant does not speak of what an agent of the spec does next. -/
theorem Inv_offer {s : State} {x : Input} (h : Inv s) (hx : ∀ w, x ≠ .bus w) : Inv (offer s x) :=
  ⟨h.latched, h.latchedTx, h.receiving, h.transmitting, h.idle, h.unavailable, h.payload, h.cursor,
    h.notComplete, h.declared, h.stored, h.searching, h.initialised, h.bufWf, h.bufRange, h.params,
    by simpa [offer] using hx⟩

/-- Every state of a run is one the agents of the spec reach. -/
theorem run_inv {sched : Schedule} {r : Nat → State} (hspec : specAgents sched) (hrun : isRun sched r)
    (h : Inv (r 0)) (n : Nat) : Inv (r n) := by
  induction n with
  | zero => exact h
  | succ n ih => exact (Inv_offer ih (hspec n)).step (hrun n)

/-- A step of a run does not lengthen the transmission. -/
theorem step_txWithin {s t : State} {x : Input} (hx : ∀ w, x ≠ .bus w) (hr : s.radio.isTx = true)
    (hstep : step (offer s x) = .next t) : txWithin (txLeft s.radio) t := by
  have hs : txWithin (txLeft s.radio) { s with inputs := [] } := .inr ⟨hr, le_rfl⟩
  obtain ⟨hf, hm, hagent⟩ := step_next_unmarked hstep
  cases x with
  | host c d =>
    change ({ s with inputs := [] } : State).hostOp c d = .next t at hagent
    obtain ⟨i, hd, hop⟩ | ⟨e, -, hop⟩ := State.hostOp_cases { s with inputs := [] } c d
    · exact exec_txWithin hs (.inl ⟨issued_of_decodeHost hd, hr⟩) (hop.symm.trans hagent)
    · cases hop.symm.trans hagent
      exact hs
  | irq w b =>
    refine service_keeps (P := txWithin (txLeft s.radio))
      (fun u i v htrig hu => exec_txWithin hu (.inr htrig)) ?_
      (hagent : ({ s with inputs := [] } : State).service w b = .next t)
    rwa [txWithin, State.readStatus_radio]
  | bus w => exact absurd rfl (hx w)

/-- A transmit request of a run shortens it. -/
theorem step_txRequest {s t : State} {x : Input} {w : Half} (h : Inv s) (hr : s.radio.isTx = true)
    (hx : serviceDraw x = some w) (hw : fifoDraw w) (hstep : step (offer s x) = .next t) :
    t.radio = .idle ∨ (t.radio.isTx = true ∧ txLeft t.radio < txLeft s.radio) := by
  obtain ⟨hf, hm, hagent⟩ := step_next_unmarked hstep
  obtain ⟨hidle, -⟩ := RadioState.ne_of_isTx hr
  cases x with
  | irq w' b =>
    cases hx
    have hread : Inv { s with inputs := [], busLog := s.busLog ++ [.status w] } := h.congr rfl (by simp)
    obtain ⟨u, hu⟩ := hread.execEvFifoTx_next
    have hserve := service_of_txRequest (s := { s with inputs := [] }) (b := b)
      (h.initialised (h.avail_eq_true hidle)) hr hw hu
    cases hserve.symm.trans hagent
    rw [State.wakeIf_radio]
    exact execEvFifoTx_txLeft (s := { s with inputs := [], busLog := s.busLog ++ [.status w] }) hr hu
  | host | bus => cases hx

/-- From a transmit state the run stays in the transmission, not farther from its end, until it is idle. -/
theorem run_txWithin {sched : Schedule} {r : Nat → State} {n : Nat} (hspec : specAgents sched)
    (hrun : isRun sched r) (hr : (r n).radio.isTx = true) (hno : ∀ m, n ≤ m → (r m).radio ≠ .idle)
    {m : Nat} (hm : n ≤ m) : (r m).radio.isTx = true ∧ txLeft (r m).radio ≤ txLeft (r n).radio := by
  induction m, hm using Nat.le_induction with
  | base => exact ⟨hr, le_rfl⟩
  | succ m hm ih =>
    obtain ⟨htx, hle⟩ := ih
    obtain hidle | ⟨htx', hle'⟩ := step_txWithin (hspec m) htx (hrun m)
    · exact absurd hidle (hno (m + 1) (hm.trans (Nat.le_succ m)))
    · exact ⟨htx', hle'.trans hle⟩

/-- Settles O59: each awaited request brings `Idle` nearer, and no other step takes it back. -/
theorem transmissionEndsUnderDeviceLiveness : Obligations.TransmissionEndsUnderDeviceLiveness := by
  unfold Obligations.TransmissionEndsUnderDeviceLiveness
  intro sched r hspec hrun h0 hlive n hr
  by_contra hnever
  have hno (m : Nat) (hm : n ≤ m) : (r m).radio ≠ .idle := fun h => hnever ⟨m, hm, h⟩
  clear hnever
  induction hN : txLeft (r n).radio using Nat.strong_induction_on generalizing n with
  | _ N ih =>
    obtain ⟨m, hm, w, hdraw, hw⟩ := hlive n hr
    obtain ⟨htx, hle⟩ := run_txWithin hspec hrun hr hno hm
    obtain hidle | ⟨htx', hlt⟩ := step_txRequest (run_inv hspec hrun h0 m) htx hdraw hw (hrun m)
    · exact hno (m + 1) (hm.trans (Nat.le_succ m)) hidle
    · exact ih _ (hN ▸ hlt.trans_le hle) (m + 1) htx'
        (fun k hk => hno k (hm.trans ((Nat.le_succ m).trans hk))) rfl

end Sys2Proof.Machine

/-! PROOFS. A whole transmission (R69, R136, R189 to R200, R232, R234). -/

namespace Sys2Proof.Machine

open Sys2Proof.Safety

/-! ## Runs -/

theorem run_succ {M : Host.Core} {s t : M.State} (h : M.step s = .next t) (n : Nat) :
    M.run (n + 1) s = M.run n t := by
  rw [Host.Core.run, h]

theorem run_add {M : Host.Core} {m : Nat} {s t : M.State} (h : M.run m s = .next t) (n : Nat) :
    M.run (m + n) s = M.run n t := by
  induction m generalizing s with
  | zero =>
    cases h
    rw [Nat.zero_add]
  | succ m ih =>
    rw [Host.Core.run] at h
    split at h
    · rw [Nat.add_right_comm, run_succ ‹_›, ih h]
    · cases h
    · cases h

/-- One more step at the end of a run. -/
theorem run_concat {M : Host.Core} {m : Nat} {s t u : M.State} (h : M.run m s = .next t)
    (hstep : M.step t = .next u) : M.run (m + 1) s = .next u := by
  rw [run_add h, run_succ hstep, Host.Core.run]

/-! ## The bytes on the air (R69, R200) -/

theorem airBytes_append (xs ys : List BusEntry) : airBytes (xs ++ ys) = airBytes xs ++ airBytes ys := by
  induction xs with
  | nil => rfl
  | cons x xs ih => cases x <;> simp [airBytes, ih]

theorem State.wakeIf_airBytes (s : State) (w : Half) : airBytes (s.wakeIf w).busLog = airBytes s.busLog := by
  unfold State.wakeIf
  split
  · rw [airBytes_append]
    exact List.append_nil _
  · rfl

/-! ## The chain of the transmit requests -/

/-- `v` is in the transmission of the frame, identity and parameters of `s`, in the state `r` with the
checksum `c`. -/
structure Sends (s : State) (r : RadioState) (c : Half) (v : State) : Prop where
  radio : v.radio = r
  crc : v.crc = c
  buf : v.buf = s.buf
  cfg : v.cfg = s.cfg
  ident : v.ident = s.ident
  init : v.init = true
  mark : final v

/-- In the transmission of `s` a request emits `x` and leads from `(r, c)` to `(r', c')`. -/
structure AirStep (s : State) (r : RadioState) (c : Half) (x : Byte) (r' : RadioState) (c' : Half) :
    Prop where
  isTx : r.isTx = true
  exec : ∀ v, Sends s r c v → execEvFifoTx v = .next { v.emit x r' with crc := c' }

/-- The requests between `(r, c)` and `(r', c')` emit `xs`. -/
inductive AirRun (s : State) : RadioState → Half → List Byte → RadioState → Half → Prop
  | nil (r : RadioState) (c : Half) : AirRun s r c [] r c
  | cons {r r₁ r₂ : RadioState} {c c₁ c₂ : Half} {x : Byte} {xs : List Byte}
    (h : AirStep s r c x r₁ c₁) (hs : AirRun s r₁ c₁ xs r₂ c₂) : AirRun s r c (x :: xs) r₂ c₂

theorem AirRun.append {s : State} {r r₁ r₂ : RadioState} {c c₁ c₂ : Half} {xs ys : List Byte}
    (h : AirRun s r c xs r₁ c₁) (h' : AirRun s r₁ c₁ ys r₂ c₂) : AirRun s r c (xs ++ ys) r₂ c₂ := by
  induction h with
  | nil => exact h'
  | cons hx _ ih => exact .cons hx (ih h')

theorem Sends.wakeIf {s v : State} {r : RadioState} {c : Half} (h : Sends s r c v) (w : Half) :
    Sends s r c (v.wakeIf w) := by
  obtain ⟨hr, hc, hbuf, hcfg, hid, hi, hm⟩ := h
  unfold State.wakeIf
  split <;> exact ⟨hr, hc, hbuf, hcfg, hid, hi, hm⟩

theorem State.wakeIf_inputs (s : State) (w : Half) : (s.wakeIf w).inputs = s.inputs := by
  unfold State.wakeIf
  split <;> rfl

/-- One transmit request of a run. -/
theorem step_of_airStep {s v : State} {r r' : RadioState} {c c' : Half} {x b : Byte} {w : Half}
    {is : List Input} (h : AirStep s r c x r' c') (hv : Sends s r c v) (hw : fifoDraw w)
    (hin : v.inputs = .irq w b :: is) :
    ∃ t, step v = .next t ∧ Sends s r' c' t ∧ t.inputs = is
      ∧ airBytes t.busLog = airBytes v.busLog ++ [x] := by
  obtain ⟨hr, hc, hbuf, hcfg, hid, hi, hm⟩ := hv
  have hexec := h.exec { v with inputs := is, busLog := v.busLog ++ [.status w] }
    ⟨hr, hc, hbuf, hcfg, hid, hi, hm⟩
  have hserve := service_of_txRequest (s := { v with inputs := is }) (b := b) hi (hr ▸ h.isTx) hw hexec
  have hafter : Sends s r' c'
      { State.emit { v with inputs := is, busLog := v.busLog ++ [.status w] } x r' with crc := c' } :=
    ⟨rfl, rfl, hbuf, hcfg, hid, hi, hm⟩
  refine ⟨_, (step_irq hm hin).trans hserve, hafter.wakeIf w, State.wakeIf_inputs _ w, ?_⟩
  rw [State.wakeIf_airBytes]
  simp [airBytes_append, airBytes]

/-- The transmit requests of a run, one for each byte. -/
theorem run_of_airRun {s : State} {r r' : RadioState} {c c' : Half} {xs : List Byte}
    (h : AirRun s r c xs r' c') {v : State} (hv : Sends s r c v) {draws : List (Half × Byte)}
    {is : List Input} (hlen : draws.length = xs.length) (hw : ∀ d ∈ draws, fifoDraw d.1)
    (hin : v.inputs = (draws.map fun d => .irq d.1 d.2) ++ is) :
    ∃ t : State, Sys2Proof.core.run xs.length v = .next t ∧ Sends s r' c' t ∧ t.inputs = is
      ∧ airBytes t.busLog = airBytes v.busLog ++ xs := by
  induction h generalizing v draws with
  | nil =>
    cases List.length_eq_zero_iff.mp hlen
    exact ⟨v, rfl, hv, hin, (List.append_nil _).symm⟩
  | cons hx _ ih =>
    obtain ⟨d, ds, rfl⟩ := List.exists_cons_of_length_eq_add_one hlen
    obtain ⟨u, hstep, hu, huin, huair⟩ := step_of_airStep hx hv (hw d List.mem_cons_self) hin
    obtain ⟨t, hrun, ht, htin, htair⟩ :=
      ih hu (Nat.succ.inj hlen) (fun e he => hw e (List.mem_cons_of_mem d he)) huin
    exact ⟨t, (run_succ hstep _).trans hrun, ht, htin, by rw [htair, huair, List.append_assoc]; rfl⟩

/-! ## The chain of a whole frame (R190 to R197) -/

/-- The frame stands in the buffer, and its length byte fits. -/
structure HoldsFrame (s : State) (len : Byte) (frame : List Byte) : Prop where
  length : frame.length = 2 + len.toNat
  second : frame[1]? = some len
  fits : len.toNat ≤ s.cfg.maxPayload
  params : s.cfg.wf
  stored : ∀ i, i < frame.length → s.buf.read i = frame[i]?

/-- A request inside the payload emits and feeds the byte at the transmit position (R193). -/
theorem airStep_payload {s : State} {len x : Byte} {frame : List Byte} {k : BitVec 8} {i : Nat}
    (h : HoldsFrame s len frame) (hk : k.toInt = i - (2 + len.toNat : Int)) (hi : frame[i]? = some x)
    (c : Half) : AirStep s (.txPayload k) c x (if k + 1 = 0 then .txCrcHigh else .txPayload (k + 1))
      (crc16Update c x) where
  isTx := rfl
  exec v hv := by
    obtain ⟨hlt, -⟩ := List.getElem?_eq_some_iff.mp hi
    have hlen := h.length
    have hfits := h.fits
    obtain ⟨-, hmax⟩ := h.params
    have hindex : txIndex len k = i := txIndex_eq (by omega) (by omega) (by omega)
    have hone : v.buf.read 1 = some len := by rw [hv.buf, h.stored 1 (by omega), h.second]
    have hbyte : v.buf.read (txIndex len k) = some x := by rw [hv.buf, hindex, h.stored i hlt, hi]
    have hcap : txIndex len k < v.cfg.bufCap := by rw [hindex, hv.cfg, Params.bufCap]; omega
    rw [execEvFifoTx_of_txPayload hv.radio, State.txPayloadStep_of_read hone hcap hbyte, hv.crc]

/-- The payload requests emit and feed the rest of the frame. -/
theorem airRun_payload {s : State} {len : Byte} {frame : List Byte} (h : HoldsFrame s len frame)
    {x : Byte} {xs : List Byte} {k : BitVec 8} {i : Nat} (hi : frame.drop i = x :: xs)
    (hk : k.toInt = i - (2 + len.toNat : Int)) (c : Half) :
    AirRun s (.txPayload k) c (x :: xs) .txCrcHigh (crcFold c (x :: xs)) := by
  have hlen := h.length
  have hx : frame[i]? = some x := by rw [← List.head?_drop, hi]; rfl
  have htail : frame.drop (i + 1) = xs := by rw [← List.tail_drop, hi]; rfl
  have hrest : frame.length - (i + 1) = xs.length := by rw [← htail, List.length_drop]
  obtain ⟨hlt, -⟩ := List.getElem?_eq_some_iff.mp hx
  have hstep := airStep_payload h hk hx c
  induction xs generalizing x k i c with
  | nil =>
    simp only [List.length_nil] at hrest
    have hlast : k + 1 = 0 := (txOffset_last_iff k).mpr (by omega)
    rw [if_pos hlast] at hstep
    exact .cons hstep (.nil _ _)
  | cons y ys ih =>
    simp only [List.length_cons] at hrest
    have hnext : k + 1 ≠ 0 := fun hlast => by
      have hlast := (txOffset_last_iff k).mp hlast
      omega
    rw [if_neg hnext] at hstep
    have hk' : (k + 1).toInt = ((i + 1 : Nat) : Int) - (2 + len.toNat : Int) := by
      rw [txOffset_succ_toInt (by omega) hnext, hk]
      omega
    have hy : frame[i + 1]? = some y := by rw [← List.head?_drop, htail]; rfl
    exact .cons hstep (ih htail hk' (crc16Update c x) hy (by rw [← List.tail_drop, htail]; rfl)
      (by omega) (by omega) (airStep_payload h hk' hy _))

/-- A request that feeds nothing to the checksum. -/
theorem AirStep.of_emit {s : State} {r r' : RadioState} {x : Byte} {c : Half} (hr : r.isTx = true)
    (h : ∀ v, Sends s r c v → execEvFifoTx v = .next (v.emit x r')) : AirStep s r c x r' c where
  isTx := hr
  exec v hv := by
    rw [h v hv, ← hv.crc]
    rfl

/-- The requests before the payload: the second preamble byte, the sync byte and the group id, which seeds the
checksum (R190 to R192). -/
theorem airRun_head {s : State} {len : Byte} {frame : List Byte} (h : HoldsFrame s len frame) (c : Half) :
    AirRun s .txPreamble c [s.cfg.preamble, s.cfg.sync1, s.ident.groupId] (.txPayload (txStart len))
      (crc16Update crcSeed s.ident.groupId) := by
  have hlen := h.length
  refine .cons (r₁ := .txSync1) (.of_emit rfl fun v hv => ?_)
    (.cons (r₁ := .txSync2) (.of_emit rfl fun v hv => ?_) (.cons ⟨rfl, fun v hv => ?_⟩ (.nil _ _)))
  · rw [execEvFifoTx_of_txPreamble hv.radio, hv.cfg]
  · rw [execEvFifoTx_of_txSync1 hv.radio, hv.cfg]
  · have hone : v.buf.read 1 = some len := by rw [hv.buf, h.stored 1 (by omega), h.second]
    rw [execEvFifoTx_of_txSync2 hv.radio, State.txSync2Step_of_read hone, hv.ident]

/-- The requests after the payload: the trailer, low byte first, and the tail (R194 to R197). -/
theorem airRun_tail (s : State) (c : Half) :
    AirRun s .txCrcHigh c (crcTrailer c ++ [s.cfg.tail, s.cfg.tail]) .txDone c := by
  refine .cons (r₁ := .txCrcLow) (.of_emit rfl fun v hv => ?_)
    (.cons (r₁ := .txTail1) (.of_emit rfl fun v hv => ?_)
      (.cons (r₁ := .txTail2) (.of_emit rfl fun v hv => ?_) (.cons (.of_emit rfl fun v hv => ?_) (.nil _ _))))
  · rw [execEvFifoTx_of_txCrcHigh hv.radio, hv.crc]
  · rw [execEvFifoTx_of_txCrcLow hv.radio, hv.crc]
  · rw [execEvFifoTx_of_txTail1 hv.radio, hv.cfg]
  · rw [execEvFifoTx_of_txTail2 hv.radio, hv.cfg]

/-- The bytes that the requests of a frame emit, from `TxPreamble` to `TxDone`. -/
def requested (s : State) (frame : List Byte) : List Byte :=
  [s.cfg.preamble, s.cfg.sync1, s.ident.groupId] ++ (frame
    ++ (crcTrailer (crcFold crcSeed (s.ident.groupId :: frame)) ++ [s.cfg.tail, s.cfg.tail]))

theorem requested_length (s : State) (frame : List Byte) : (requested s frame).length = frame.length + 7 := by
  simp [requested, crcTrailer]

theorem airRun_frame {s : State} {len : Byte} {frame : List Byte} (h : HoldsFrame s len frame) (c : Half) :
    ∃ c', AirRun s .txPreamble c (requested s frame) .txDone c' := by
  have hlen := h.length
  have hfits := h.fits
  obtain ⟨-, hmax⟩ := h.params
  have hstart : (txStart len).toInt = ((0 : Nat) : Int) - (2 + len.toNat : Int) := by
    rw [txStart_toInt (by omega)]
    omega
  obtain ⟨x, xs, rfl⟩ := List.exists_cons_of_length_pos (l := frame) (by omega)
  exact ⟨_, (airRun_head h c).append ((airRun_payload h rfl hstart _).append (airRun_tail s _))⟩

/-! ## From TXBEGIN to `Idle` -/

/-- TXBEGIN in `Idle` begins the transmission of its frame, with the first preamble byte. -/
theorem step_txbegin {s : State} {hdr len : Byte} {data : List Byte} {is : List Input} (hm : final s)
    (hp : s.cfg.wf) (hi : s.init = true) (ha : s.avail = true) (hr : s.radio = .idle)
    (hd : data.length = len.toNat) (hl : len.toNat ≤ s.cfg.maxPayload)
    (hin : s.inputs = encode (.txbegin hdr len data) :: is) :
    ∃ t, step s = .next t ∧ HoldsFrame t len (hdr :: len :: data) ∧ Sends t .txPreamble crcSeed t
      ∧ t.cfg = s.cfg ∧ t.ident = s.ident ∧ t.inputs = is
      ∧ airBytes t.busLog = airBytes s.busLog ++ [s.cfg.preamble] := by
  have hexec := execTxbegin_of_idle (s := { s with inputs := is }) hdr data hl ha hr
  refine ⟨_, ((step_host hm hin).trans (hostOp_of_ok (decodeHost_txbeginWord hdr len hd))).trans hexec,
    ⟨?_, rfl, hl, hp, fun i hi => ?_⟩, ⟨rfl, rfl, rfl, rfl, rfl, hi, hm⟩, rfl, rfl, rfl, ?_⟩
  · simp only [List.length_cons]
    omega
  · rw [Memory.read_writeAll, if_pos (by omega), Nat.sub_zero]
  · simp [airBytes_append, airBytes]

/-- The last request turns the transmitter off (R198). -/
theorem step_txDone {s v : State} {c : Half} {w : Half} {b : Byte} {is : List Input}
    (hv : Sends s .txDone c v) (hw : fifoDraw w) (hin : v.inputs = .irq w b :: is) :
    ∃ t, step v = .next t ∧ t.radio = .idle ∧ t.txOn = false ∧ t.inputs = is ∧ final t
      ∧ airBytes t.busLog = airBytes v.busLog := by
  have hexec := execEvFifoTx_of_txDone
    (s := { v with inputs := is, busLog := v.busLog ++ [.status w] }) hv.radio
  have hserve := service_of_txRequest (s := { v with inputs := is }) (b := b) hv.init
    (by rw [show _ = RadioState.txDone from hv.radio]; rfl) hw hexec
  refine ⟨_, (step_irq hv.mark hin).trans hserve, ?_, ?_, State.wakeIf_inputs _ w, ?_, ?_⟩
  · rw [State.wakeIf_radio]
    rfl
  · unfold State.wakeIf
    split <;> rfl
  · unfold State.wakeIf
    split <;> exact hv.mark
  · rw [State.wakeIf_airBytes]
    simp [State.txDoneStep, airBytes_append, airBytes]

/-- Settles O55: TXBEGIN, one request for each byte, and the last request. -/
theorem transmissionEmitsTheFrame : Obligations.TransmissionEmitsTheFrame := by
  unfold Obligations.TransmissionEmitsTheFrame
  intro s hdr len data draws rest hm hp hi ha hr hd hl hdraws hw hin
  obtain ⟨t, hstep, hframe, hsends, hcfg, hid, htin, htair⟩ := step_txbegin hm hp hi ha hr hd hl hin
  obtain ⟨c', hair⟩ := airRun_frame hframe crcSeed
  obtain rfl | ⟨ds, d, rfl⟩ := List.eq_nil_or_concat' draws
  · cases hdraws
  have hlength : ds.length = (requested t (hdr :: len :: data)).length := by
    rw [requested_length, hframe.length]
    simp only [List.length_append, List.length_singleton] at hdraws
    omega
  obtain ⟨u, hrun, husends, huin, huair⟩ := run_of_airRun hair hsends (is := .irq d.1 d.2 :: rest) hlength
    (fun e he => hw e (List.mem_append_left _ he)) (by simpa using htin)
  obtain ⟨v, hlast, hvr, hvtx, hvin, hvm, hvair⟩ := step_txDone husends (hw d (by simp)) huin
  have hall := run_concat ((run_succ (M := Sys2Proof.core) hstep _).trans hrun) hlast
  rw [requested_length, hframe.length] at hall
  refine ⟨v, ?_, hvr, hvtx, hvin, hvm, ?_⟩
  · rwa [show len.toNat + 11 = 2 + len.toNat + 7 + 1 + 1 by omega]
  · rw [hvair, huair, htair, requested, hcfg, hid]
    simp [crcSeed]

end Sys2Proof.Machine

/-! PROOFS. A whole reception (R133, R187, R188, R201, R233) and the loopback (95 section 1.2). -/

namespace Sys2Proof.Machine

open Sys2Proof.Safety

/-! ## One received byte -/

/-- `u` is in the receive session of `s`, with the bytes `xs` received since. -/
structure Received (s : State) (xs : List Byte) (u : State) : Prop where
  mark : final u
  init : u.init = true
  radio : u.radio = .receiving
  cursor : u.cursor.toNat = xs.length
  crc : u.crc = crcFold s.crc xs
  buf : ∀ i, i < xs.length → u.buf.read i = xs[i]?
  cfg : u.cfg = s.cfg
  ident : u.ident = s.ident
  results : u.results = s.results

/-- Do these received bytes end a frame (R188)? -/
def frameEnds (p : Params) (xs : List Byte) : Prop :=
  (∃ l, xs[1]? = some l ∧ l.toNat + 3 < xs.length) ∨ xs.length = p.bufCap

theorem completeWith_iff_frameEnds {p : Params} {xs : List Byte} {c : Byte} (hc : c.toNat = xs.length) :
    completeWith p (xs[1]?.getD 0) c = true ↔ frameEnds p xs := by
  rw [completeWith_iff, hc, frameEnds]
  refine or_congr_left ⟨fun ⟨h2, hl⟩ => ?_, fun ⟨l, hread, hl⟩ => ?_⟩
  · obtain ⟨l, hread⟩ : ∃ l, xs[1]? = some l := ⟨xs[1], List.getElem?_eq_getElem (by omega)⟩
    rw [hread] at hl
    exact ⟨l, hread, hl⟩
  · obtain ⟨hlt, -⟩ := List.getElem?_eq_some_iff.mp hread
    rw [hread]
    exact ⟨hlt, hl⟩

theorem Received.wakeIf {s u : State} {xs : List Byte} (h : Received s xs u) (w : Half) :
    Received s xs (u.wakeIf w) := by
  obtain ⟨hm, hi, hr, hcur, hcrc, hbuf, hcfg, hid, hres⟩ := h
  unfold State.wakeIf
  split <;> exact ⟨hm, hi, hr, hcur, hcrc, hbuf, hcfg, hid, hres⟩

/-- The byte stored and fed extends the session. -/
theorem Received.receiveByte {s u : State} {xs : List Byte} (h : Received s xs u) (hp : s.cfg.wf)
    (hc : xs.length < s.cfg.bufCap) (w : Half) (b : Byte) : Received s (xs ++ [b]) (u.receiveByte w b) := by
  obtain ⟨⟨hf, hm⟩, hi, hr, hcur, hcrc, hbuf, hcfg, hid, hres⟩ := h
  have hsucc : (u.cursor + 1).toNat = u.cursor.toNat + 1 :=
    cursor_succ_toNat (by rwa [hcfg]) (by rwa [hcur, hcfg])
  refine ⟨⟨by simp [hf], by simp [hm]⟩, by simp [hi], by simp [hr], ?_, ?_, fun i hlt => ?_,
    by simp [hcfg], by simp [hid], by simp [hres]⟩
  · rw [State.storeByte_cursor, State.rssiStep_cursor, hsucc, hcur, List.length_append, List.length_singleton]
  · rw [crcFold_concat, ← hcrc]
    simp
  · rw [State.storeByte_buf, State.rssiStep_buf, State.rssiStep_cursor, Memory.read_write, hcur]
    split
    · subst i
      simp
    · have hlt' : i < xs.length := by simp at hlt; omega
      rw [hbuf i hlt', List.getElem?_append_left hlt']

/-- The receive handler in a session, by whether the byte ends the frame. -/
theorem execEvFifoRx_of_received {s v : State} {xs : List Byte} (h : Received s xs v) (hp : s.cfg.wf)
    (hc : xs.length < s.cfg.bufCap) (w : Half) (b : Byte) :
    (frameEnds s.cfg (xs ++ [b]) → execEvFifoRx w b v = .next (v.receiveByte w b).finishFrame)
    ∧ (¬ frameEnds s.cfg (xs ++ [b]) → execEvFifoRx w b v = .next (v.receiveByte w b)) := by
  have hrec := h.receiveByte hp hc w b
  have hcursor : (v.cursor + 1).toNat = (xs ++ [b]).length := by simpa using hrec.cursor
  have hlength (h2 : 2 ≤ (v.cursor + 1).toNat) :
      (v.buf.write v.cursor.toNat b).read 1 = some ((xs ++ [b])[1]?.getD 0) := by
    have hlt : 1 < (xs ++ [b]).length := by omega
    have hbuf := hrec.buf 1 hlt
    rw [State.storeByte_buf, State.rssiStep_buf, State.rssiStep_cursor, List.getElem?_eq_getElem hlt] at hbuf
    rw [hbuf, List.getElem?_eq_getElem hlt]
    rfl
  have hexec : execEvFifoRx w b v = .next
      (if completeWith v.cfg ((xs ++ [b])[1]?.getD 0) (v.cursor + 1) = true
        then (v.receiveByte w b).finishFrame else v.receiveByte w b) :=
    execEvFifoRx_of_length (by rwa [h.cursor, h.cfg]) hlength
  have hends := completeWith_iff_frameEnds (p := s.cfg) hcursor
  rw [h.cfg] at hexec
  refine ⟨fun hend => ?_, fun hno => ?_⟩
  · rwa [if_pos (hends.mpr hend)] at hexec
  · rwa [if_neg (mt hends.mp hno)] at hexec

/-- A receive service is the handler's, after the status word and the FIFO byte are read. -/
theorem step_of_execEvFifoRx {u v : State} {w : Half} {b : Byte} {is : List Input} (hm : final u)
    (hi : u.init = true) (hr : u.radio = .receiving) (hf : u.frameReady = false) (hw : fifoDraw w)
    (hin : u.inputs = .irq w b :: is)
    (hexec : execEvFifoRx w b { u with
      inputs := is, busLog := u.busLog ++ [.status w, .fifoRead b] } = .next v) :
    step u = .next (v.wakeIf w) := by
  refine (step_irq hm hin).trans (service_of_fifo (s := { u with inputs := is }) hi hw ?_)
  rw [State.fifoCase_of_receiving (s := { u with inputs := is }) hr hf,
    State.readStatus_of_rx (s := { u with inputs := is }) b hi hr hf hw]
  exact hexec

section

variable {s u : State} {xs : List Byte} {w : Half} {b : Byte} {is : List Input}

/-- The session does not speak of the bus log and the inputs. -/
theorem Received.read (h : Received s xs u) (w : Half) (b : Byte) (is : List Input) :
    Received s xs { u with inputs := is, busLog := u.busLog ++ [.status w, .fifoRead b] } :=
  ⟨h.mark, h.init, h.radio, h.cursor, h.crc, h.buf, h.cfg, h.ident, h.results⟩

theorem Received.finishFrame (h : Received s xs u) : Received s xs u.finishFrame :=
  ⟨h.mark, h.init, h.radio, h.cursor, h.crc, h.buf, h.cfg, h.ident, h.results⟩

theorem State.wakeIf_frameReady (s : State) (w : Half) : (s.wakeIf w).frameReady = s.frameReady := by
  unfold State.wakeIf
  split <;> rfl

/-- A byte that does not end the frame. -/
theorem step_receive_more (h : Received s xs u) (hf : u.frameReady = false) (hp : s.cfg.wf)
    (hc : xs.length < s.cfg.bufCap) (hw : fifoDraw w) (hin : u.inputs = .irq w b :: is)
    (hno : ¬ frameEnds s.cfg (xs ++ [b])) :
    ∃ t, step u = .next t ∧ Received s (xs ++ [b]) t ∧ t.frameReady = false ∧ t.inputs = is := by
  obtain ⟨-, hexec⟩ := execEvFifoRx_of_received (h.read w b is) hp hc w b
  refine ⟨_, step_of_execEvFifoRx h.mark h.init h.radio hf hw hin (hexec hno),
    ((h.read w b is).receiveByte hp hc w b).wakeIf w, ?_, ?_⟩
  · rw [State.wakeIf_frameReady]
    simpa using hf
  · rw [State.wakeIf_inputs]
    simp

/-- The byte that ends the frame. -/
theorem step_receive_last (h : Received s xs u) (hf : u.frameReady = false) (hp : s.cfg.wf)
    (hc : xs.length < s.cfg.bufCap) (hw : fifoDraw w) (hin : u.inputs = .irq w b :: is)
    (hend : frameEnds s.cfg (xs ++ [b])) :
    ∃ t, step u = .next t ∧ Received s (xs ++ [b]) t ∧ t.frameReady = true ∧ t.rxOn = false
      ∧ t.crcSnap = crcFold s.crc (xs ++ [b]) ∧ t.inputs = is := by
  obtain ⟨hexec, -⟩ := execEvFifoRx_of_received (h.read w b is) hp hc w b
  have hrec := (h.read w b is).receiveByte hp hc w b
  refine ⟨_, step_of_execEvFifoRx h.mark h.init h.radio hf hw hin (hexec hend), hrec.finishFrame.wakeIf w, ?_,
    ?_, ?_, ?_⟩
  · rw [State.wakeIf_frameReady]
    rfl
  · unfold State.wakeIf
    split <;> rfl
  · rw [← hrec.crc]
    unfold State.wakeIf
    split <;> rfl
  · rw [State.wakeIf_inputs]
    simp

end

/-! ## A session of bytes -/

section

variable {s : State} {bytes : List Byte} {words : List Half} {is : List Input}

/-- A freshly armed receiver has received nothing. -/
theorem Received.fresh (hm : final s) (hi : s.init = true) (hr : s.radio = .receiving) (hc : s.cursor = 0) :
    Received s [] s :=
  ⟨hm, hi, hr, by rw [hc]; rfl, rfl, fun _ h => absurd h (Nat.not_lt_zero _), rfl, rfl, rfl⟩

/-- The services before the end of the frame. -/
theorem run_receive (hs : Received s [] s) (hf : s.frameReady = false) (hp : s.cfg.wf)
    (hcap : bytes.length ≤ s.cfg.bufCap) (hlen : words.length = bytes.length) (hw : ∀ w ∈ words, fifoDraw w)
    (hin : s.inputs = (List.zipWith (fun w b => Input.irq w b) words bytes) ++ is)
    (hno : ∀ n, n < bytes.length → ¬ frameEnds s.cfg (bytes.take n)) {n : Nat} (hn : n < bytes.length) :
    ∃ u : State, Sys2Proof.core.run n s = .next u ∧ Received s (bytes.take n) u ∧ u.frameReady = false
      ∧ u.inputs = (List.zipWith (fun w b => Input.irq w b) (words.drop n) (bytes.drop n)) ++ is := by
  induction n with
  | zero => exact ⟨s, rfl, hs, hf, hin⟩
  | succ n ih =>
    obtain ⟨u, hrun, hu, huf, huin⟩ := ih (by omega)
    have hword : n < words.length := by omega
    have hbyte : n < bytes.length := by omega
    rw [List.drop_eq_getElem_cons hword, List.drop_eq_getElem_cons hbyte] at huin
    have hmore := hno (n + 1) hn
    rw [List.take_succ_eq_append_getElem hbyte] at hmore ⊢
    obtain ⟨t, hstep, ht, htf, htin⟩ := step_receive_more hu huf hp (by simp; omega)
      (hw _ (List.getElem_mem hword)) huin hmore
    exact ⟨t, run_concat hrun hstep, ht, htf, htin⟩

/-- All the services of a frame that ends with its last byte. -/
theorem run_receive_all (hs : Received s [] s) (hf : s.frameReady = false) (hp : s.cfg.wf)
    (hcap : bytes.length ≤ s.cfg.bufCap) (hlen : words.length = bytes.length) (hw : ∀ w ∈ words, fifoDraw w)
    (hin : s.inputs = (List.zipWith (fun w b => Input.irq w b) words bytes) ++ is)
    (hno : ∀ n, n < bytes.length → ¬ frameEnds s.cfg (bytes.take n)) (hend : frameEnds s.cfg bytes) :
    ∃ t : State, Sys2Proof.core.run bytes.length s = .next t ∧ Received s bytes t ∧ t.frameReady = true
      ∧ t.rxOn = false ∧ t.crcSnap = crcFold s.crc bytes ∧ t.inputs = is := by
  obtain ⟨n, hn⟩ : ∃ n, bytes.length = n + 1 := Nat.exists_eq_succ_of_ne_zero fun h0 => by
    obtain ⟨l, -, hl⟩ | hl := hend
    · omega
    · simp [Params.bufCap, h0] at hl
  obtain ⟨u, hrun, hu, huf, huin⟩ := run_receive hs hf hp hcap hlen hw hin hno (n := n) (by omega)
  have hword : n < words.length := by omega
  have hbyte : n < bytes.length := by omega
  have hall : bytes.take n ++ [bytes[n]] = bytes := by
    rw [← List.take_succ_eq_append_getElem hbyte, ← hn, List.take_length]
  rw [List.drop_eq_getElem_cons hword, List.drop_eq_getElem_cons hbyte, List.drop_eq_nil_of_le (by omega)]
    at huin
  obtain ⟨t, hstep, ht, htf, htrx, htsnap, htin⟩ := step_receive_last hu huf hp (by simp; omega)
    (hw _ (List.getElem_mem hword)) huin (by rwa [hall])
  rw [hall] at ht htsnap
  rw [hn]
  exact ⟨t, run_concat hrun hstep, ht, htf, htrx, htsnap, htin⟩

end

/-- The bytes of a frame that fits end it with the last of them (R188). -/
theorem frameEnds_of_fits {p : Params} {bytes : List Byte} {len : Byte} (hl : len.toNat ≤ p.maxPayload)
    (hlen : bytes.length = len.toNat + 4) (hread : bytes[1]? = some len) :
    (∀ n, n < bytes.length → ¬ frameEnds p (bytes.take n)) ∧ frameEnds p bytes := by
  refine ⟨?_, .inl ⟨len, hread, by omega⟩⟩
  rintro n hn (⟨l, hl', hlt⟩ | hcap)
  · rw [List.length_take] at hlt
    rw [List.getElem?_take] at hl'
    split at hl'
    · cases hl'.symm.trans hread
      omega
    · cases hl'
  · rw [List.length_take, Params.bufCap] at hcap
    omega

/-- Settles O56: the services before the last byte, and all of them. -/
theorem receptionCompletesTheFrame : Obligations.ReceptionCompletesTheFrame := by
  unfold Obligations.ReceptionCompletesTheFrame
  intro s len bytes words rest hm hp hi hr hf hcur hcrc hl hlen hread hwords hw hin
  obtain ⟨hno, hend⟩ := frameEnds_of_fits hl hlen hread
  have hcap : bytes.length ≤ s.cfg.bufCap := by rw [Params.bufCap]; omega
  have hs := Received.fresh hm hi hr hcur
  refine ⟨fun n hn => ?_, ?_⟩
  · obtain ⟨u, hrun, hu, huf, -⟩ := run_receive hs hf hp hcap hwords hw hin hno (n := n) (by omega)
    exact ⟨u, hrun, hu.radio, huf⟩
  · obtain ⟨t, hrun, ht, htf, htrx, htsnap, htin⟩ := run_receive_all hs hf hp hcap hwords hw hin hno hend
    rw [hlen] at hrun
    exact ⟨t, hrun, ht.radio, htf, htrx, htin, by rw [htsnap, hcrc]; rfl, fun i hlt => ht.buf i (by omega)⟩

/-! ## PKTRDY after the last byte (R133, R134) -/

theorem step_pktrdy {u : State} {h l : Byte} {is : List Input} (hm : final u) (hf : u.frameReady = true)
    (h0 : u.buf.read 0 = some h) (h1 : u.buf.read 1 = some l) (hin : u.inputs = encode .pktrdy :: is) :
    step u = .next { u with
      frameReady := false, radio := .idle, inputs := is
      results := u.results ++ [boolWord (acceptWith u h l)] } :=
  (step_host hm hin).trans (execPktrdy_of_frame (s := { u with inputs := is }) hf h0 h1)

/-- Settles O57: the declared length ends nothing below the buffer's capacity, and `accept()` fails on it. -/
theorem overlongFrameIsRejected : Obligations.OverlongFrameIsRejected := by
  unfold Obligations.OverlongFrameIsRejected
  intro s len bytes words rest hm hp hi hr hf hcur hl hlen hread hwords hw hin
  have hno (n : Nat) (hn : n < bytes.length) : ¬ frameEnds s.cfg (bytes.take n) := by
    rintro (⟨l, hl', hlt⟩ | hcap)
    · rw [List.length_take] at hlt
      rw [List.getElem?_take] at hl'
      split at hl'
      · cases hl'.symm.trans hread
        rw [Params.bufCap] at hlen
        omega
      · cases hl'
    · rw [List.length_take] at hcap
      omega
  have hs := Received.fresh hm hi hr hcur
  obtain ⟨t, hrun, ht, htf, -, -, htin⟩ :=
    run_receive_all hs hf hp hlen.le hwords hw hin hno (.inr hlen)
  rw [hlen] at hrun
  refine ⟨fun n hn => ?_, ⟨t, hrun, htf⟩, ?_⟩
  · obtain ⟨u, hrun, -, huf, -⟩ := run_receive hs hf hp hlen.le hwords hw hin hno (n := n) (by omega)
    exact ⟨u, hrun, huf⟩
  · have hpos : 1 < bytes.length := by rw [hlen, Params.bufCap]; omega
    have h0 : t.buf.read 0 = some bytes[0] := (ht.buf 0 (by omega)).trans (List.getElem?_eq_getElem _)
    have h1 : t.buf.read 1 = some len := (ht.buf 1 hpos).trans hread
    have hreject : acceptWith t bytes[0] len = false := by
      rw [Bool.eq_false_iff, ne_eq, acceptWith_iff, ht.cfg]
      omega
    refine ⟨_, run_concat hrun (step_pktrdy ht.mark htf h0 h1 htin), rfl, rfl, ?_⟩
    rw [hreject, ht.results]
    rfl

/-- Settles O58: the trailer clears the checksum of a frame that fits and addresses the receiver. -/
theorem transmittedFrameIsDelivered : Obligations.TransmittedFrameIsDelivered := by
  unfold Obligations.TransmittedFrameIsDelivered
  intro s hdr len data words rest hm hp hi hr hf hcur hcrc hd hl haddr hwords hw hin
  set bytes := hdr :: len :: data ++ crcTrailer (crcFold 0xFFFF (s.ident.groupId :: hdr :: len :: data))
    with hbytes
  have hlen : bytes.length = len.toNat + 4 := by simp [hbytes, crcTrailer, hd]
  obtain ⟨hno, hend⟩ := frameEnds_of_fits hl hlen rfl
  have hcap : bytes.length ≤ s.cfg.bufCap := by rw [Params.bufCap]; omega
  obtain ⟨t, hrun, ht, htf, -, htsnap, htin⟩ := run_receive_all (Received.fresh hm hi hr hcur) hf hp hcap
    (hwords.trans hlen.symm) hw hin hno hend
  have hclear : t.crcSnap = 0x0000 := by
    rw [htsnap, hcrc, hbytes, crcFold_append]
    exact crcFold_trailer _
  have h0 : t.buf.read 0 = some hdr := ht.buf 0 (by omega)
  have h1 : t.buf.read 1 = some len := ht.buf 1 (by omega)
  have haccept : acceptWith t hdr len = true := by
    rw [acceptWith_iff, ht.cfg, ht.ident]
    exact ⟨hl, haddr, .inl hclear⟩
  rw [hlen] at hrun
  refine ⟨_, run_concat hrun (step_pktrdy ht.mark htf h0 h1 htin), rfl, hclear, rfl, ?_, h0, h1,
    fun i hlt => ?_⟩
  · rw [haccept, ht.results]
    rfl
  · refine (ht.buf (2 + i) (by omega)).trans ?_
    rw [Nat.add_comm 2 i]
    exact List.getElem?_append_left (by simp only [List.length_cons]; omega)

end Sys2Proof.Machine
